-- ==== Sys2Proof/Word.lean ====
section
/-! DEFINITION. The word types of the spec and the two small data types its operands need: the partition of
10_state.md R17 and the bitmap of 43_backlight_glyph_write.md R141. -/

namespace Sys2Proof

/-- An 8-bit value: an output word, an instruction or data byte, an operand (30_encoding.md R50, R72). -/
abbrev Byte := BitVec 8

/-- A 4-bit nibble, the unit of transfer (00_scope.md R9). -/
abbrev Nibble := BitVec 4

/-- One of the two display halves, or neither (10_state.md R17). -/
inductive Partition where
  | none
  | top
  | bottom
  deriving DecidableEq, Repr

/-- The eight rows of a glyph, `bitmap[0..7]` (43_backlight_glyph_write.md R141). -/
structure Bitmap where
  row0 : Byte
  row1 : Byte
  row2 : Byte
  row3 : Byte
  row4 : Byte
  row5 : Byte
  row6 : Byte
  row7 : Byte
  deriving DecidableEq, Repr

end Sys2Proof
end

