-- ==== Sys2Proof/Config.lean ====
section
/-! DEFINITION. The implementation parameters of 00_scope.md R5, the constraints the spec puts on them, the spec's
default values, and the two free values of the model. An instance's parameters are the field `cfg` of State, so every
claim about every state is a claim about every parameter. -/

namespace Sys2Proof

/-- The parameters of 00_scope.md R5, less ADDR (a register) and ROWMAP (a constant). Times are in microseconds, the
granularity of the sleep primitive (60_exceptions.md R161). -/
structure Config where
  /-- register-select bit of the output word (RS_MASK) -/
  rsMask : Byte
  /-- enable line of partition TOP (EN_TOP_MASK) -/
  enTopMask : Byte
  /-- enable line of partition BOTTOM (EN_BOT_MASK) -/
  enBotMask : Byte
  /-- backlight-enable line (BL_MASK) -/
  blMask : Byte
  /-- T_HOLD, least width of the enable pulse -/
  tHold : Nat
  /-- T_SETTLE, least wait after the falling enable edge -/
  tSettle : Nat
  /-- T_CLEAR, least wait after `clear` -/
  tClear : Nat
  /-- T_HOME, least wait after `home` -/
  tHome : Nat
  /-- T_INIT1, wait after the first 0x3 pair -/
  tInit1 : Nat
  /-- T_INIT2, wait after the second 0x3 pair -/
  tInit2 : Nat
  /-- T_INIT3, wait after the third 0x3 pair -/
  tInit3 : Nat
  /-- FUNCSET_BASE, the function-set byte for one row (30_encoding.md R61) -/
  funcsetBase : Byte
  /-- TWO_LINE, the two-line flag of that byte (30_encoding.md R61) -/
  twoLine : Byte
  /-- RESET_ENTRY (10_state.md R24) -/
  resetEntry : BitVec 2
  /-- RESET_DISPCTL (10_state.md R24) -/
  resetDispctl : BitVec 3
  /-- RESET_BL (10_state.md R24) -/
  resetBl : Byte
  /-- RESET_PART, left open by the spec (10_state.md R17, R187) -/
  resetPart : Partition
  deriving DecidableEq, Repr

/-- One bit set, in the low nibble (30_encoding.md R50). -/
abbrev oneHotLow (m : Byte) : Prop := m = 0x01 ∨ m = 0x02 ∨ m = 0x04 ∨ m = 0x08

/-- The constraint on the four masks: "the four masks are distinct, each has exactly one bit set, and
RS_MASK | EN_TOP_MASK | EN_BOT_MASK | BL_MASK = 0x0F" (30_encoding.md R50). -/
abbrev Config.MasksOk (c : Config) : Prop :=
  (oneHotLow c.rsMask ∧ oneHotLow c.enTopMask ∧ oneHotLow c.enBotMask ∧ oneHotLow c.blMask) ∧
  (c.rsMask ≠ c.enTopMask ∧ c.rsMask ≠ c.enBotMask ∧ c.rsMask ≠ c.blMask ∧
    c.enTopMask ≠ c.enBotMask ∧ c.enTopMask ≠ c.blMask ∧ c.enBotMask ≠ c.blMask) ∧
  c.rsMask ||| c.enTopMask ||| c.enBotMask ||| c.blMask = 0x0F

/-- The wait classes: "T_INIT1 > T_INIT2 = T_INIT3 > T_SETTLE > T_HOLD, and T_CLEAR, T_HOME >> T_SETTLE"
(70_reset_and_hazards.md R183; "much above" is read as above), with T_HOLD above 450 ns, so at least one microsecond, and
T_CLEAR and T_HOME at least 1.5 ms (00_scope.md R5). -/
abbrev Config.WaitsOk (c : Config) : Prop :=
  1 ≤ c.tHold ∧ c.tHold < c.tSettle ∧ c.tSettle < c.tInit3 ∧ c.tInit2 = c.tInit3 ∧ c.tInit2 < c.tInit1 ∧
  1500 ≤ c.tClear ∧ c.tSettle < c.tClear ∧ 1500 ≤ c.tHome ∧ c.tSettle < c.tHome

/-- The two function-set bytes differ and bit 5 is the highest set bit of each, so that "a decoder tells them apart by
the position of the highest set bit" (30_encoding.md R55). DEDUCED: the spec states this of the default numbers only
(assumption 2). -/
abbrev Config.FunctionSetOk (c : Config) : Prop :=
  c.funcsetBase.extractLsb' 5 3 = 1#3 ∧ (c.funcsetBase ||| c.twoLine).extractLsb' 5 3 = 1#3 ∧
  c.funcsetBase ≠ c.funcsetBase ||| c.twoLine

/-- The parameters that the spec admits. -/
abbrev Config.Valid (c : Config) : Prop := c.MasksOk ∧ c.WaitsOk ∧ c.FunctionSetOk

/-- The default values of 00_scope.md R5 with the reference masks P0 of 30_encoding.md R51. DESIGN CHOICE for the masks
and for RESET_PART, which the spec leaves open (assumptions 1 and 4); PRESUMED for the numbers the spec takes from
general knowledge (assumption 2). Unsafe: only `State.reset` and the tests use it. -/
def Config.reference : Config where
  rsMask := 0x01
  enTopMask := 0x04
  enBotMask := 0x02
  blMask := 0x08
  tHold := 1
  tSettle := 37
  tClear := 1500
  tHome := 1500
  tInit1 := 4500
  tInit2 := 200
  tInit3 := 200
  funcsetBase := 0x20
  twoLine := 0x08
  resetEntry := 0b10
  resetDispctl := 0b000
  resetBl := 0
  resetPart := .none

/-- FREE VALUE. The completion code of write number n when the host has scripted none (60_exceptions.md R152: "a model
takes the code of each write as a free input"). DESIGN CHOICE, safe (assumption 9). -/
opaque Config.freeCode : Nat → Byte

/-- FREE VALUE. Whether the expander took the word of the failed write number n (10_state.md R20: PORT is "either its
old value or w"). DESIGN CHOICE, safe (assumption 10). -/
opaque Config.freeLatch : Nat → Bool

end Sys2Proof
end

