-- ==== Sys2Proof/Syntax.lean ====
section
/-! DEFINITION. The instructions: one constructor per row of spec/opcode_table.json. The first twenty are the host's
commands (30_encoding.md R67, R69); the other twelve are the forms the block sends (30_encoding.md R54 to R65, R50). -/

namespace Sys2Proof

/-- One constructor per row of the opcode table. Operands are the fields of the row's encoding; a form that goes to one
partition also names it, since the byte itself does not (40_transfer.md R85). -/
inductive Instr where
  /-- `begin(cols, rows)`, 41_init.md R100 -/
  | begin (cols rows : Byte)
  /-- `init()`, 41_init.md R106 -/
  | init
  /-- `clear()`, 42_display_commands.md R110 -/
  | clear
  /-- `home()`, R111 -/
  | home
  /-- `setCursor(col, row)`, R112 -/
  | setCursor (col row : Byte)
  /-- `cursor()`, R115 -/
  | cursor
  /-- `noCursor()`, R116 -/
  | noCursor
  /-- `blink()`, R117 -/
  | blink
  /-- `noBlink()`, R118 -/
  | noBlink
  /-- `display()`, R113 -/
  | display
  /-- `noDisplay()`, R114 -/
  | noDisplay
  /-- `scrollDisplayLeft()`, R119 -/
  | scrollDisplayLeft
  /-- `scrollDisplayRight()`, R120 -/
  | scrollDisplayRight
  /-- `leftToRight()`, R121 -/
  | leftToRight
  /-- `rightToLeft()`, R122 -/
  | rightToLeft
  /-- `autoscroll()`, R123 -/
  | autoscroll
  /-- `noAutoscroll()`, R124 -/
  | noAutoscroll
  /-- `setBacklight(level)`, 43_backlight_glyph_write.md R140 -/
  | setBacklight (level : Byte)
  /-- `createChar(slot, bitmap)`, R141 -/
  | createChar (slot : Byte) (bitmap : Bitmap)
  /-- `write(ch)`, R142 -/
  | write (ch : Byte)
  /-- CLEAR, 30_encoding.md R56 -/
  | clearByte
  /-- HOME, R57 -/
  | homeByte
  /-- ENTRY_MODE_SET with the field {ID, S}, R58 -/
  | entryModeSet (flags : BitVec 2)
  /-- DISPLAY_CONTROL with the field {D, C, B}, R59 -/
  | displayControl (flags : BitVec 3)
  /-- SHIFT, right or left, R60 -/
  | shift (right : Bool)
  /-- FUNCTION_SET with the two-line flag, R61 -/
  | functionSet (lines2 : Bool)
  /-- SET_CGRAM of glyph slot k, to partition p, R62 -/
  | setCgram (p : Partition) (k : BitVec 3)
  /-- SET_DDRAM of address a, to partition p, R63 -/
  | setDdram (p : Partition) (a : BitVec 7)
  /-- RESET_NIBBLE_3, R64 -/
  | resetNibble3
  /-- MODE_LOCK_NIBBLE_2, R64 -/
  | modeLockNibble2
  /-- DATA_BYTE v, to partition p, R65 -/
  | dataByte (p : Partition) (v : Byte)
  /-- OUTPUT_WORD by its fields: nibble, register-select, addressed partition, backlight, R50 -/
  | outputWord (n : Nibble) (isData : Bool) (p : Partition) (backlight : Bool)
  deriving DecidableEq, Repr

end Sys2Proof
end

