-- ==== Sys2Proof/Decode.lean ====
section
/-! DEFINITION. The decoder, total on every bit pattern, and the encoder, both written from 30_encoding.md. Two kinds of
word are read: the command word of the command port (R68), and the forms the block sends (R54, R50), which the opcode
table keeps apart by its column "format". -/

namespace Sys2Proof

/-- One transfer as it stands at the transmitters' input: the table's formats INSTR_BYTE, INSTR_NIBBLE, DATA_BYTE and
PORT_WORD, with the addressed partition beside a byte (assumption 12). A broadcast byte ignores its partition. -/
inductive Request where
  | instrByte (v : Byte) (p : Partition)
  | instrNibble (n : Nibble)
  | dataByte (v : Byte) (p : Partition)
  | portWord (w : Byte)
  deriving DecidableEq, Repr

/-- The encoding of an instruction: a command word with its side operand G, or a transfer. -/
inductive Encoded where
  | command (word : BitVec 21) (glyph : BitVec 64)
  | request (r : Request)
  deriving DecidableEq, Repr

/-- Why the decoder answers "invalid". -/
inductive Reject where
  /-- command opcode 0x14 to 0x1F (30_encoding.md R71) -/
  | reservedOpcode (op : BitVec 5)
  /-- an instruction byte the block never emits (30_encoding.md R66) -/
  | byteNeverEmitted (v : Byte)
  /-- a single nibble other than 0x3 and 0x2 (30_encoding.md R64) -/
  | nibbleNeverEmitted (n : Nibble)
  /-- an address instruction to neither partition (42_display_commands.md R112, 43_backlight_glyph_write.md R141) -/
  | noPartition
  /-- an output word with both enable bits (30_encoding.md R52) -/
  | bothEnables (w : Byte)
  deriving DecidableEq, Repr

/-! ## The command word -/

/-- OP, bits 20:16 (30_encoding.md R68). -/
def opField (word : BitVec 21) : BitVec 5 := word.extractLsb' 16 5

/-- The first operand A, bits 15:8 (30_encoding.md R68). -/
def aField (word : BitVec 21) : Byte := word.extractLsb' 8 8

/-- The second operand B, bits 7:0 (30_encoding.md R68). -/
def bField (word : BitVec 21) : Byte := word.extractLsb' 0 8

/-- Row i of the bitmap is `G[8i+7 : 8i]` (30_encoding.md R68). -/
def bitmapOf (glyph : BitVec 64) : Bitmap where
  row0 := glyph.extractLsb' 0 8
  row1 := glyph.extractLsb' 8 8
  row2 := glyph.extractLsb' 16 8
  row3 := glyph.extractLsb' 24 8
  row4 := glyph.extractLsb' 32 8
  row5 := glyph.extractLsb' 40 8
  row6 := glyph.extractLsb' 48 8
  row7 := glyph.extractLsb' 56 8

/-- The side operand G of a bitmap, row 7 in the high bits (30_encoding.md R68). -/
def glyphOf (b : Bitmap) : BitVec 64 :=
  b.row0.setWidth 64 ||| b.row1.setWidth 64 <<< 8 ||| b.row2.setWidth 64 <<< 16 ||| b.row3.setWidth 64 <<< 24 |||
    b.row4.setWidth 64 <<< 32 ||| b.row5.setWidth 64 <<< 40 ||| b.row6.setWidth 64 <<< 48 ||| b.row7.setWidth 64 <<< 56

/-- The command of a command word, by the opcode numbers of 30_encoding.md R69; unused fields are ignored (R70) and
opcodes 0x14 to 0x1F are refused (R71). -/
def decodeCommand (word : BitVec 21) (glyph : BitVec 64) : Except Reject Instr :=
  match (opField word).toNat with
  | 0x00 => .ok (.begin (aField word) (bField word))
  | 0x01 => .ok .init
  | 0x02 => .ok .clear
  | 0x03 => .ok .home
  | 0x04 => .ok (.setCursor (aField word) (bField word))
  | 0x05 => .ok .cursor
  | 0x06 => .ok .noCursor
  | 0x07 => .ok .blink
  | 0x08 => .ok .noBlink
  | 0x09 => .ok .display
  | 0x0A => .ok .noDisplay
  | 0x0B => .ok .scrollDisplayLeft
  | 0x0C => .ok .scrollDisplayRight
  | 0x0D => .ok .leftToRight
  | 0x0E => .ok .rightToLeft
  | 0x0F => .ok .autoscroll
  | 0x10 => .ok .noAutoscroll
  | 0x11 => .ok (.setBacklight (aField word))
  | 0x12 => .ok (.createChar (aField word) (bitmapOf glyph))
  | 0x13 => .ok (.write (aField word))
  | _ => .error (.reservedOpcode (opField word))

/-! ## The output word -/

/-- The enable field of the addressed partition (30_encoding.md R52). -/
def Config.enable (c : Config) : Partition → Byte
  | .none => 0x00
  | .top => c.enTopMask
  | .bottom => c.enBotMask

/-- The output word of its fields (30_encoding.md R50): the nibble in bits 7:4, one bit for each control line. -/
def Config.packLines (c : Config) (n : Nibble) (isData : Bool) (p : Partition) (backlight : Bool) : Byte :=
  (n.setWidth 8 <<< 4) ||| (if isData then c.rsMask else 0) ||| c.enable p ||| (if backlight then c.blMask else 0)

/-- The fields of an output word (30_encoding.md R50, R52). -/
def decodePortWord (c : Config) (w : Byte) : Except Reject Instr :=
  let n : Nibble := w.extractLsb' 4 4
  let isData := w &&& c.rsMask != 0
  let bl := w &&& c.blMask != 0
  match w &&& c.enTopMask != 0, w &&& c.enBotMask != 0 with
  | false, false => .ok (.outputWord n isData .none bl)
  | true, false => .ok (.outputWord n isData .top bl)
  | false, true => .ok (.outputWord n isData .bottom bl)
  | true, true => .error (.bothEnables w)

/-! ## The instruction bytes, nibbles and data bytes -/

/-- The function-set byte with and without the two-line flag (30_encoding.md R61). -/
def Config.functionSetByte (c : Config) (lines2 : Bool) : Byte :=
  c.funcsetBase ||| (if lines2 then c.twoLine else 0)

/-- An address instruction names a display half. -/
def toHalf (p : Partition) (i : Instr) : Except Reject Instr :=
  match p with
  | .none => .error .noPartition
  | .top => .ok i
  | .bottom => .ok i

/-- The instruction byte v sent with RS = 0: "a decoder tells them apart by the position of the highest set bit"
(30_encoding.md R55); what the block never emits is refused (R66). -/
def decodeInstrByte (c : Config) (v : Byte) (p : Partition) : Except Reject Instr :=
  if v.extractLsb' 7 1 = 1#1 then toHalf p (.setDdram p (v.extractLsb' 0 7))
  else if v.extractLsb' 6 2 = 1#2 then
    if v.extractLsb' 0 3 = 0#3 then toHalf p (.setCgram p (v.extractLsb' 3 3)) else .error (.byteNeverEmitted v)
  else if v.extractLsb' 5 3 = 1#3 then
    if v = c.functionSetByte false then .ok (.functionSet false)
    else if v = c.functionSetByte true then .ok (.functionSet true)
    else .error (.byteNeverEmitted v)
  else if v = 0x18 then .ok (.shift false)
  else if v = 0x1C then .ok (.shift true)
  else if v.extractLsb' 3 5 = 1#5 then .ok (.displayControl (v.extractLsb' 0 3))
  else if v.extractLsb' 2 6 = 1#6 then .ok (.entryModeSet (v.extractLsb' 0 2))
  else if v = 0x02 then .ok .homeByte
  else if v = 0x01 then .ok .clearByte
  else .error (.byteNeverEmitted v)

/-- A transfer, by its format. -/
def decodeRequest (c : Config) : Request → Except Reject Instr
  | .instrByte v p => decodeInstrByte c v p
  | .instrNibble n =>
    if n = 0x3 then .ok .resetNibble3 else if n = 0x2 then .ok .modeLockNibble2 else .error (.nibbleNeverEmitted n)
  | .dataByte v p => .ok (.dataByte p v)
  | .portWord w => decodePortWord c w

/-- The decoder. -/
def decode (c : Config) : Encoded → Except Reject Instr
  | .command word glyph => decodeCommand word glyph
  | .request r => decodeRequest c r

/-! ## The encoder -/

/-- ENTRY_MODE_SET is `0x04 | ENTRY` (30_encoding.md R58). -/
def entryModeByte (flags : BitVec 2) : Byte := 0x04 ||| flags.setWidth 8

/-- DISPLAY_CONTROL is `0x08 | DISPCTL` (30_encoding.md R59). -/
def displayControlByte (flags : BitVec 3) : Byte := 0x08 ||| flags.setWidth 8

/-- SHIFT is `0x10 | 0x08 | (0x00 left / 0x04 right)` (30_encoding.md R60). -/
def shiftByte (right : Bool) : Byte := 0x10 ||| 0x08 ||| (if right then 0x04 else 0x00)

/-- SET_CGRAM is `0x40 | (k << 3)` (30_encoding.md R62). -/
def setCgramByte (k : BitVec 3) : Byte := 0x40 ||| (k.setWidth 8 <<< 3)

/-- SET_DDRAM is `0x80 | a` (30_encoding.md R63). -/
def setDdramByte (a : BitVec 7) : Byte := 0x80 ||| a.setWidth 8

/-- The command word {OP, A, B} (30_encoding.md R68). -/
def commandWord (op : BitVec 5) (a b : Byte) : BitVec 21 :=
  op.setWidth 21 <<< 16 ||| a.setWidth 21 <<< 8 ||| b.setWidth 21

/-- A command whose side operand is not used; unused fields are zero. -/
def plainCommand (op : BitVec 5) (a b : Byte) : Encoded := .command (commandWord op a b) 0

/-- The encoding of an instruction, by 30_encoding.md R69 for the commands and R55 to R65 and R50 for what the block
sends. -/
def encode (c : Config) : Instr → Encoded
  | .begin cols rows => plainCommand 0x00 cols rows
  | .init => plainCommand 0x01 0 0
  | .clear => plainCommand 0x02 0 0
  | .home => plainCommand 0x03 0 0
  | .setCursor col row => plainCommand 0x04 col row
  | .cursor => plainCommand 0x05 0 0
  | .noCursor => plainCommand 0x06 0 0
  | .blink => plainCommand 0x07 0 0
  | .noBlink => plainCommand 0x08 0 0
  | .display => plainCommand 0x09 0 0
  | .noDisplay => plainCommand 0x0A 0 0
  | .scrollDisplayLeft => plainCommand 0x0B 0 0
  | .scrollDisplayRight => plainCommand 0x0C 0 0
  | .leftToRight => plainCommand 0x0D 0 0
  | .rightToLeft => plainCommand 0x0E 0 0
  | .autoscroll => plainCommand 0x0F 0 0
  | .noAutoscroll => plainCommand 0x10 0 0
  | .setBacklight level => plainCommand 0x11 level 0
  | .createChar slot bitmap => .command (commandWord 0x12 slot 0) (glyphOf bitmap)
  | .write ch => plainCommand 0x13 ch 0
  | .clearByte => .request (.instrByte 0x01 .none)
  | .homeByte => .request (.instrByte 0x02 .none)
  | .entryModeSet flags => .request (.instrByte (entryModeByte flags) .none)
  | .displayControl flags => .request (.instrByte (displayControlByte flags) .none)
  | .shift right => .request (.instrByte (shiftByte right) .none)
  | .functionSet lines2 => .request (.instrByte (c.functionSetByte lines2) .none)
  | .setCgram p k => .request (.instrByte (setCgramByte k) p)
  | .setDdram p a => .request (.instrByte (setDdramByte a) p)
  | .resetNibble3 => .request (.instrNibble 0x3)
  | .modeLockNibble2 => .request (.instrNibble 0x2)
  | .dataByte p v => .request (.dataByte v p)
  | .outputWord n isData p backlight => .request (.portWord (c.packLines n isData p backlight))

/-! ## Words as the opcode table numbers them -/

/-- The instruction bytes that have a row of their own in the opcode table, under the default parameters. -/
def isInstrByteRow (v : Byte) : Bool :=
  match decodeInstrByte Config.reference v .top with
  | .ok _ => true
  | .error _ => false

/-- The transfer that a row of at most eight bits stands for. The table's formats INSTR_BYTE, INSTR_NIBBLE, DATA_BYTE and
PORT_WORD share these words, and the row gives no bits for its format or its partition: four bits or fewer are read as a
nibble; eight bits as the instruction byte where there is one, then as a reset nibble, else as a data byte; the partition
is TOP (DESIGN CHOICE, assumption 13). -/
def tableRequest (nbits w : Nat) : Request :=
  if nbits ≤ 4 then .instrNibble (BitVec.ofNat 4 w)
  else if isInstrByteRow (BitVec.ofNat 8 w) then .instrByte (BitVec.ofNat 8 w) .top
  else if w = 3 then .instrNibble 0x3
  else .dataByte (BitVec.ofNat 8 w) .top

/-- The word w of an opcode-table row of nbits bits, laid out as the hardware takes it: more than eight bits are the
command port's 21 wires, and bits 24 up are the side operand G (assumption 21). -/
def tableEncoded (nbits w : Nat) : Encoded :=
  if nbits ≤ 8 then .request (tableRequest nbits w)
  else .command (BitVec.ofNat 21 w) (BitVec.ofNat 64 (w >>> 24))

/-- The instruction the decoder reads from an opcode-table word, under the default parameters. -/
def decodeTableWord (nbits w : Nat) : Option Instr :=
  match decode Config.reference (tableEncoded nbits w) with
  | .ok i => some i
  | .error _ => none

end Sys2Proof
end

