-- ==== Sys2Proof/Machine/State.lean ====
section
/-! DEFINITION. The state of one block, its output trace, the reasons a step stops, and reset (10_state.md, 00_scope.md
R7, 70_reset_and_hazards.md R170). -/

namespace Sys2Proof.Machine

/-- The command that a `Done` event names (00_scope.md R7). `init` has no name of its own here: its trace is that of
`clear`, to the last event (41_init.md R106, 30_encoding.md R74). -/
inductive Op where
  | begin | clear | home | setCursor | cursor | noCursor | blink | noBlink | display | noDisplay
  | scrollDisplayLeft | scrollDisplayRight | leftToRight | rightToLeft | autoscroll | noAutoscroll
  | setBacklight | createChar | write
  deriving DecidableEq, Repr

/-- STATUS: "result of the last completed command: 0 = OK, 1 = InvalidArgument" (10_state.md R19). -/
inductive Status where
  | ok
  | invalidArgument
  deriving DecidableEq, Repr

/-- An event of the output trace (00_scope.md R7). A bus write also carries the address it went to (assumption 15);
a wait carries its least duration in microseconds (assumption 16). -/
inductive Event where
  /-- `B`, one call of `busBegin()` -/
  | busBegin
  /-- `W(w, c)`, one bus transaction writing w to the address, answered with code c -/
  | write (address : BitVec 7) (w : Byte) (c : Byte)
  /-- `D(t)`, one wait of at least t -/
  | delay (t : Nat)
  /-- `R(c)`, one report of the non-zero code c -/
  | report (c : Byte)
  /-- `Done(op, status, result)`, the end of a command -/
  | done (op : Op) (status : Status) (result : Byte)
  deriving DecidableEq, Repr

/-- The reasons a step stops with a fault. There are none: InvalidArgument ends its command in a next state
(60_exceptions.md R151), a transport error stops nothing (R154), and "nothing traps" (00_scope.md R8). -/
inductive Fault where
  deriving DecidableEq, Repr

/-- The reasons a step has no result. -/
inductive Refusal where
  /-- raised by `exec` for an instruction that has no meaning yet; no arm raises it (safe) -/
  | notModelled (mnemonic : String)
  /-- raised by `step` for a presented command whose opcode is 0x14 to 0x1F: "its step function gives no result for it,
  so nothing is promised" (30_encoding.md R71, decision D21) (safe) -/
  | reservedOpcode (op : BitVec 5)
  /-- raised by `step` for a standing request that is no form the block sends (30_encoding.md R52, R64, R66) (safe) -/
  | notEmitted (why : Reject)
  deriving DecidableEq, Repr

/-- The state of one block instance: its configuration, the six registers of 10_state.md R10, the command port of
30_encoding.md R75 and 10_state.md R19, the expander's latch PORT (10_state.md R20), the output trace, and three fields
of the model's own (`request`, `answers`, `nWrites`: assumptions 9, 10 and 12). -/
structure State where
  /-- the parameters, fixed for the life of the instance (00_scope.md R5) -/
  cfg : Config
  /-- ADDR, "fixed at construction, immutable" (10_state.md R12) -/
  addr : BitVec 7
  /-- BL_LEVEL (10_state.md R13) -/
  blLevel : Byte
  /-- ROWS (10_state.md R14) -/
  rows : Byte
  /-- ENTRY: bit 1 ID, bit 0 S (10_state.md R15) -/
  entry : BitVec 2
  /-- DISPCTL: bit 2 D, bit 1 C, bit 0 B (10_state.md R16) -/
  dispctl : BitVec 3
  /-- PART, the active partition (10_state.md R17) -/
  part : Partition
  /-- BUSY (10_state.md R19) -/
  busy : Bool
  /-- STATUS (10_state.md R19) -/
  status : Status
  /-- RESULT (10_state.md R19) -/
  result : Byte
  /-- input `cmd_valid` (30_encoding.md R75) -/
  cmdValid : Bool
  /-- input `cmd_word` (30_encoding.md R75) -/
  cmdWord : BitVec 21
  /-- input `cmd_glyph` (30_encoding.md R75) -/
  cmdGlyph : BitVec 64
  /-- the model's own: a transfer standing at the transmitters' input (assumption 12) -/
  request : Option Request
  /-- PORT, the expander's output latch (10_state.md R20) -/
  port : Byte
  /-- the model's own: the codes the transport will answer, next first (assumption 9) -/
  answers : List Byte
  /-- the model's own: the count that the free values are applied to (assumptions 9, 10) -/
  nWrites : Nat
  /-- the output trace, oldest event first (00_scope.md R7) -/
  trace : List Event
  deriving DecidableEq, Repr

/-- Construction, the only reset (70_reset_and_hazards.md R170): `construct(address)` for an instance with parameters c.
The fields the spec leaves unspecified hold the values of assumptions 5 (ROWS), 6 (PORT), 7 (the port's inputs), 9, 10
and 12 (the model's own fields). -/
def State.construct (c : Config) (address : Nat) : State where
  cfg := c
  addr := BitVec.ofNat 7 address
  blLevel := c.resetBl
  rows := 0
  entry := c.resetEntry
  dispctl := c.resetDispctl
  part := c.resetPart
  busy := false
  status := .ok
  result := 0
  cmdValid := false
  cmdWord := 0
  cmdGlyph := 0
  request := none
  port := 0xFF
  answers := []
  nWrites := 0
  trace := []

/-- The machine right after reset: construction with the default parameters and the address of the spec's scenario
(DESIGN CHOICE, assumptions 1, 3 and 4). -/
def State.reset : State := State.construct Config.reference 0x3F

end Sys2Proof.Machine
end

