-- ==== Sys2Proof/Machine/Ops.lean ====
section
/-! DEFINITION. The micro-operations of 40_transfer.md over the state, the end of a command, and the one way a command
fails (60_exceptions.md R151). -/

namespace Sys2Proof.Machine

/-! ## Register writes (10_state.md R23) -/

/-- `BL_LEVEL <- v`. -/
def State.setBlLevel (s : State) (v : Byte) : State := { s with blLevel := v }

/-- `ROWS <- v`. -/
def State.setRows (s : State) (v : Byte) : State := { s with rows := v }

/-- `ENTRY <- v`. -/
def State.setEntry (s : State) (v : BitVec 2) : State := { s with entry := v }

/-- `DISPCTL <- v`. -/
def State.setDispctl (s : State) (v : BitVec 3) : State := { s with dispctl := v }

/-- `PART <- v`. -/
def State.setPart (s : State) (v : Partition) : State := { s with part := v }

/-! ## One bus write, one wait -/

/-- The completion code the transport answers to the next write: the next scripted answer, else a free value
(60_exceptions.md R152, assumption 9). -/
def State.nextCode (s : State) : Byte :=
  match s.answers with
  | c :: _ => c
  | [] => Config.freeCode s.nWrites

/-- PORT after a write of w answered with code c: w on success, else "either its old value or w" (10_state.md R20,
assumption 10). -/
def State.portAfter (s : State) (w c : Byte) : Byte :=
  if c = 0 then w else if Config.freeLatch s.nWrites then w else s.port

/-- `Report(c)`: one event for a non-zero code, none for success (60_exceptions.md R153). -/
def reportEvents (c : Byte) : List Event := if c = 0 then [] else [.report c]

/-- What one bus write appends: its W event, and its report immediately after (40_transfer.md R81). -/
def writeEvents (address : BitVec 7) (w c : Byte) : List Event := .write address w c :: reportEvents c

/-- `BusWrite(w)` (40_transfer.md R81): one transaction to ADDR; the answered code is the second component. -/
def State.busWrite (s : State) (w : Byte) : State × Byte :=
  ({ s with
      port := s.portAfter w s.nextCode
      answers := s.answers.tail
      nWrites := s.nWrites + 1
      trace := s.trace ++ writeEvents s.addr w s.nextCode }, s.nextCode)

/-- `Delay(t)` (40_transfer.md R82). -/
def State.delay (s : State) (t : Nat) : State := { s with trace := s.trace ++ [.delay t] }

/-- `busBegin()` (41_init.md R102). -/
def State.busBegin (s : State) : State := { s with trace := s.trace ++ [.busBegin] }

/-! ## The nibble transmitter -/

/-- The backlight bit is set for any non-zero level (10_state.md R13). -/
def State.backlight (s : State) : Bool := s.blLevel != 0

/-- `PackWord(n, isData, p)` (40_transfer.md R80). -/
def State.packWord (s : State) (n : Nibble) (isData : Bool) (p : Partition) : Byte :=
  s.cfg.packLines n isData p s.backlight

/-- The same word with both enable bits cleared (30_encoding.md R53). -/
def releaseWord (c : Config) (w : Byte) : Byte := w &&& ~~~(c.enTopMask ||| c.enBotMask)

/-- `SendNibble(n, isData, p)` (40_transfer.md R83): asserted word, hold wait, released word, settle wait. The second
component is its status: the first non-zero code of the two, else 0 (R84). -/
def State.sendNibble (s : State) (n : Nibble) (isData : Bool) (p : Partition) : State × Byte :=
  let w1 := s.packWord n isData p
  let r1 := s.busWrite w1
  let s1 := r1.1.delay s.cfg.tHold
  let r2 := s1.busWrite (releaseWord s.cfg w1)
  (r2.1.delay s.cfg.tSettle, if r1.2 ≠ 0 then r1.2 else r2.2)

/-! ## The byte transmitter -/

/-- Bits 7:4 of a byte, sent first (20_memory.md R36). -/
def hiNibble (v : Byte) : Nibble := v.extractLsb' 4 4

/-- Bits 3:0 of a byte, sent second (20_memory.md R36). -/
def loNibble (v : Byte) : Nibble := v.extractLsb' 0 4

/-- `Send(v, isData, p)` (40_transfer.md R85): both statuses are discarded. -/
def State.send (s : State) (v : Byte) (isData : Bool) (p : Partition) : State :=
  ((s.sendNibble (hiNibble v) isData p).1.sendNibble (loNibble v) isData p).1

/-- `BroadcastNibble(n)` (40_transfer.md R86): TOP, then BOTTOM. -/
def State.broadcastNibble (s : State) (n : Nibble) : State :=
  ((s.sendNibble n false .top).1.sendNibble n false .bottom).1

/-- `Broadcast(v)` (40_transfer.md R87): the whole byte to TOP, then to BOTTOM. -/
def State.broadcast (s : State) (v : Byte) : State := (s.send v false .top).send v false .bottom

/-! ## The end of a command -/

/-- A command ends well: `STATUS <- OK; RESULT <- result`, the `Done` event, and BUSY falls (30_encoding.md R75,
70_reset_and_hazards.md R184). -/
def State.complete (s : State) (op : Op) (result : Byte) : State :=
  { s with
    status := .ok
    result := result
    busy := false
    trace := s.trace ++ [.done op .ok result] }

/-- `raise InvalidArgument` (60_exceptions.md R151): STATUS, RESULT, the `Done` event and BUSY, and nothing else. There
is no handler and no return (R158, R159): the next command is accepted normally. -/
def State.raiseInvalidArgument (s : State) (op : Op) : State :=
  { s with
    status := .invalidArgument
    result := 0
    busy := false
    trace := s.trace ++ [.done op .invalidArgument 0] }

/-! ## The command port -/

/-- A command is accepted: the presentation is taken and BUSY rises (30_encoding.md R75, assumption 7). -/
def State.accept (s : State) : State := { s with cmdValid := false, busy := true }

/-- The host presents a command (30_encoding.md R75). -/
def State.present (s : State) (word : BitVec 21) (glyph : BitVec 64) : State :=
  { s with cmdValid := true, cmdWord := word, cmdGlyph := glyph }

/-- The standing transfer is taken from the transmitters' input (assumption 12). -/
def State.takeRequest (s : State) : State := { s with request := none }

end Sys2Proof.Machine
end

