-- ==== Sys2Proof/Machine/Flags.lean ====
section
/-! DEFINITION. The two flag registers ENTRY and DISPCTL: their bits (10_state.md R15, R16), the sets and clears of
42_display_commands.md sections 3 and 5, and the broadcasts that send the whole field (R126). -/

namespace Sys2Proof.Machine

/-- DISPCTL.D (10_state.md R16). -/
def dispD (d : BitVec 3) : Bool := d.getLsbD 2

/-- DISPCTL.C (10_state.md R16). -/
def dispC (d : BitVec 3) : Bool := d.getLsbD 1

/-- DISPCTL.B (10_state.md R16). -/
def dispB (d : BitVec 3) : Bool := d.getLsbD 0

/-- ENTRY.ID (10_state.md R15). -/
def entryID (e : BitVec 2) : Bool := e.getLsbD 1

/-- ENTRY.S (10_state.md R15). -/
def entryS (e : BitVec 2) : Bool := e.getLsbD 0

/-- Store DISPCTL, then broadcast `0x08 | DISPCTL` (42_display_commands.md section 3). -/
def State.putDispctl (s : State) (d : BitVec 3) : State :=
  (s.setDispctl d).broadcast (displayControlByte d)

/-- Store ENTRY, then broadcast `0x04 | ENTRY` (42_display_commands.md section 5). -/
def State.putEntry (s : State) (e : BitVec 2) : State :=
  (s.setEntry e).broadcast (entryModeByte e)

/-- The body of `display()` (R113), which `begin` also runs (41_init.md R105). -/
def State.displayOn (s : State) : State := s.putDispctl (s.dispctl ||| 0b100)

/-- The body of `leftToRight()` (R121), which `begin` also runs. -/
def State.setLeftToRight (s : State) : State := s.putEntry (s.entry ||| 0b10)

/-- The body of `clear()` (R110), which `init` and `begin` also run: one wait, after both partitions. -/
def State.clearDisplay (s : State) : State := (s.broadcast 0x01).delay s.cfg.tClear

end Sys2Proof.Machine
end

