-- ==== Sys2Proof/Machine/Operands.lean ====
section
/-! DEFINITION. What the commands do with their operands (30_encoding.md R72): the Row Map and the address of a cursor
position, the glyph slot, the bitmap rows, the two-line test. -/

namespace Sys2Proof.Machine

/-- ROWMAP: logical row to (partition, DDRAM base), exactly four entries (10_state.md R18; 0x14 for row 2 by
90_conflicts.md C1). -/
def rowMap (row : Byte) : Option (Partition × Byte) :=
  match row.toNat with
  | 0 => some (.top, 0x00)
  | 1 => some (.top, 0x40)
  | 2 => some (.bottom, 0x14)
  | 3 => some (.bottom, 0x54)
  | _ => none

/-- Translation of (col, row) to the partition and the SET_DDRAM byte `0x80 | ((base + col) mod 256)`; none is
InvalidArgument (20_memory.md R41; addition, not OR, by 90_conflicts.md C2). -/
def cursorTarget (col row : Byte) : Option (Partition × Byte) :=
  match rowMap row with
  | some (p, base) => some (p, 0x80 ||| (base + col))
  | none => none

/-- The glyph slot is masked to 0..7: `slot & 7` (30_encoding.md R62, 60_exceptions.md R155). -/
def slotIndex (slot : Byte) : BitVec 3 := slot.extractLsb' 0 3

/-- The rows in the order they travel, bitmap[0] first (20_memory.md R38). -/
def bitmapRows (b : Bitmap) : List Byte := [b.row0, b.row1, b.row2, b.row3, b.row4, b.row5, b.row6, b.row7]

/-- The two-line test `rows > 1` (41_init.md R104). -/
def twoLines (rows : Byte) : Bool := 1 < rows.toNat

end Sys2Proof.Machine
end

