-- ==== Sys2Proof/Machine/Display.lean ====
section
/-! DEFINITION. The fifteen display commands of 42_display_commands.md. -/

namespace Sys2Proof.Machine

/-- `clear()` (R110). -/
def execClear (s : State) : Host.Outcome State Fault Refusal := .next (s.clearDisplay.complete .clear 0)

/-- `home()` (R111): both partitions, one wait, then PART <- TOP. -/
def execHome (s : State) : Host.Outcome State Fault Refusal :=
  .next ((((s.broadcast 0x02).delay s.cfg.tHome).setPart .top).complete .home 0)

/-- `setCursor(col, row)` (R112): the row check comes before anything else. -/
def execSetCursor (col row : Byte) (s : State) : Host.Outcome State Fault Refusal :=
  match cursorTarget col row with
  | none => .next (s.raiseInvalidArgument .setCursor)
  | some (p, v) => .next (((s.setPart p).send v false p).complete .setCursor 0)

/-- `display()` (R113). -/
def execDisplay (s : State) : Host.Outcome State Fault Refusal := .next (s.displayOn.complete .display 0)

/-- `noDisplay()` (R114). -/
def execNoDisplay (s : State) : Host.Outcome State Fault Refusal :=
  .next ((s.putDispctl (s.dispctl &&& 0b011)).complete .noDisplay 0)

/-- `cursor()` (R115). -/
def execCursor (s : State) : Host.Outcome State Fault Refusal :=
  .next ((s.putDispctl (s.dispctl ||| 0b010)).complete .cursor 0)

/-- `noCursor()` (R116). -/
def execNoCursor (s : State) : Host.Outcome State Fault Refusal :=
  .next ((s.putDispctl (s.dispctl &&& 0b101)).complete .noCursor 0)

/-- `blink()` (R117). -/
def execBlink (s : State) : Host.Outcome State Fault Refusal :=
  .next ((s.putDispctl (s.dispctl ||| 0b001)).complete .blink 0)

/-- `noBlink()` (R118). -/
def execNoBlink (s : State) : Host.Outcome State Fault Refusal :=
  .next ((s.putDispctl (s.dispctl &&& 0b110)).complete .noBlink 0)

/-- `scrollDisplayLeft()` (R119). -/
def execScrollDisplayLeft (s : State) : Host.Outcome State Fault Refusal :=
  .next ((s.broadcast (shiftByte false)).complete .scrollDisplayLeft 0)

/-- `scrollDisplayRight()` (R120). -/
def execScrollDisplayRight (s : State) : Host.Outcome State Fault Refusal :=
  .next ((s.broadcast (shiftByte true)).complete .scrollDisplayRight 0)

/-- `leftToRight()` (R121). -/
def execLeftToRight (s : State) : Host.Outcome State Fault Refusal := .next (s.setLeftToRight.complete .leftToRight 0)

/-- `rightToLeft()` (R122). -/
def execRightToLeft (s : State) : Host.Outcome State Fault Refusal :=
  .next ((s.putEntry (s.entry &&& 0b01)).complete .rightToLeft 0)

/-- `autoscroll()` (R123). -/
def execAutoscroll (s : State) : Host.Outcome State Fault Refusal :=
  .next ((s.putEntry (s.entry ||| 0b01)).complete .autoscroll 0)

/-- `noAutoscroll()` (R124). -/
def execNoAutoscroll (s : State) : Host.Outcome State Fault Refusal :=
  .next ((s.putEntry (s.entry &&& 0b10)).complete .noAutoscroll 0)

end Sys2Proof.Machine
end

