-- ==== Sys2Proof/Machine/Glyph.lean ====
section
/-! DEFINITION. Backlight, glyph definition and character write (43_backlight_glyph_write.md). -/

namespace Sys2Proof.Machine

/-- `setBacklight(level)` (R140): the store comes first, then one zero-data transfer with no enable. -/
def execSetBacklight (level : Byte) (s : State) : Host.Outcome State Fault Refusal :=
  .next (((s.setBlLevel level).sendNibble 0x0 false .none).1.complete .setBacklight 0)

/-- The data bytes of a list, in order, to partition p. -/
def State.sendRows (s : State) (p : Partition) (vs : List Byte) : State :=
  vs.foldl (fun s v => s.send v true p) s

/-- One partition's share of `createChar` (R141): the SET_CGRAM instruction, then the eight rows. -/
def State.sendGlyph (s : State) (slot : Byte) (bitmap : Bitmap) (p : Partition) : State :=
  (s.send (setCgramByte (slotIndex slot)) false p).sendRows p (bitmapRows bitmap)

/-- `createChar(slot, bitmap)` (R141): the whole glyph to TOP, then to BOTTOM. -/
def execCreateChar (slot : Byte) (bitmap : Bitmap) (s : State) : Host.Outcome State Fault Refusal :=
  .next (((s.sendGlyph slot bitmap .top).sendGlyph slot bitmap .bottom).complete .createChar 0)

/-- `write(ch)` (R142): one data byte to PART; RESULT is 1 whatever the transport answers. -/
def execWrite (ch : Byte) (s : State) : Host.Outcome State Fault Refusal :=
  .next ((s.send ch true s.part).complete .write 1)

end Sys2Proof.Machine
end

