-- ==== Sys2Proof/Machine/Init.lean ====
section
/-! DEFINITION. `begin` and `init` (41_init.md). -/

namespace Sys2Proof.Machine

/-- One reset step of `begin`: the nibble to both partitions, then the step's wait, once (41_init.md R103). -/
def State.resetStep (s : State) (n : Nibble) (t : Nat) : State := (s.broadcastNibble n).delay t

/-- The steps of `begin` up to and with the function-set instruction (41_init.md R100, R104). -/
def State.bringUp (s : State) : State :=
  let s1 := s.busBegin
  let s2 := s1.resetStep 0x3 s.cfg.tInit1
  let s3 := s2.resetStep 0x3 s.cfg.tInit2
  let s4 := s3.resetStep 0x3 s.cfg.tInit3
  let s5 := s4.broadcastNibble 0x2
  s5.broadcast (s.cfg.functionSetByte (twoLines s.rows))

/-- `begin(cols, rows)` (41_init.md R100): ROWS <- rows, bring-up, then the bodies of `display`, `clear` and
`leftToRight`; cols is discarded (R101). -/
def execBegin (_cols rows : Byte) (s : State) : Host.Outcome State Fault Refusal :=
  let s1 := (s.setRows rows).bringUp
  .next (s1.displayOn.clearDisplay.setLeftToRight.complete .begin 0)

/-- `init()`, an alias of `clear()`: "Its trace is identical to that of clear(), wait included" (41_init.md R106), the
`Done` event included, since "its meaning is exactly that of clear()" (30_encoding.md R74, decision D30). -/
def execInit (s : State) : Host.Outcome State Fault Refusal := .next (s.clearDisplay.complete .clear 0)

end Sys2Proof.Machine
end

