-- ==== Sys2Proof/Machine/Transfer.lean ====
section
/-! DEFINITION. The forms the block sends (30_encoding.md R54 to R65, R50), each as the transfer that sends it. They are
parts of a command: none of them ends one, so BUSY, STATUS, RESULT and the registers are left alone (assumption 12). -/

namespace Sys2Proof.Machine

/-- CLEAR, to both partitions (R56). -/
def execClearByte (s : State) : Host.Outcome State Fault Refusal := .next (s.broadcast 0x01)

/-- HOME, to both partitions (R57). -/
def execHomeByte (s : State) : Host.Outcome State Fault Refusal := .next (s.broadcast 0x02)

/-- ENTRY_MODE_SET, to both partitions (R58). -/
def execEntryModeSet (flags : BitVec 2) (s : State) : Host.Outcome State Fault Refusal :=
  .next (s.broadcast (entryModeByte flags))

/-- DISPLAY_CONTROL, to both partitions (R59). -/
def execDisplayControl (flags : BitVec 3) (s : State) : Host.Outcome State Fault Refusal :=
  .next (s.broadcast (displayControlByte flags))

/-- SHIFT, to both partitions (R60). -/
def execShift (right : Bool) (s : State) : Host.Outcome State Fault Refusal := .next (s.broadcast (shiftByte right))

/-- FUNCTION_SET, to both partitions (R61). -/
def execFunctionSet (lines2 : Bool) (s : State) : Host.Outcome State Fault Refusal :=
  .next (s.broadcast (s.cfg.functionSetByte lines2))

/-- SET_CGRAM, to one partition (R62). -/
def execSetCgram (p : Partition) (k : BitVec 3) (s : State) : Host.Outcome State Fault Refusal :=
  .next (s.send (setCgramByte k) false p)

/-- SET_DDRAM, to one partition (R63). -/
def execSetDdram (p : Partition) (a : BitVec 7) (s : State) : Host.Outcome State Fault Refusal :=
  .next (s.send (setDdramByte a) false p)

/-- RESET_NIBBLE_3, a single nibble to both partitions (R64). -/
def execResetNibble3 (s : State) : Host.Outcome State Fault Refusal := .next (s.broadcastNibble 0x3)

/-- MODE_LOCK_NIBBLE_2, a single nibble to both partitions (R64). -/
def execModeLockNibble2 (s : State) : Host.Outcome State Fault Refusal := .next (s.broadcastNibble 0x2)

/-- DATA_BYTE, to one partition, with RS = 1 (R65). -/
def execDataByte (p : Partition) (v : Byte) (s : State) : Host.Outcome State Fault Refusal :=
  .next (s.send v true p)

/-- OUTPUT_WORD: one bus write of the packed fields (R50, 40_transfer.md R81). DESIGN CHOICE: a standing word is written
as it stands, with its own backlight, register-select and enable bits whatever BL_LEVEL holds, and no released word
follows it; so the invariants of 10_state.md R22 and 40_transfer.md R89 and R90 are claimed of the words of commands and
of SendNibble only (assumption 25). -/
def execOutputWord (n : Nibble) (isData : Bool) (p : Partition) (backlight : Bool) (s : State) :
    Host.Outcome State Fault Refusal :=
  .next (s.busWrite (s.cfg.packLines n isData p backlight)).1

end Sys2Proof.Machine
end

