-- ==== Sys2Proof/Machine/Dispatch.lean ====
section
/-! DEFINITION. One arm per row of the opcode table. -/

namespace Sys2Proof.Machine

/-- The meaning of an instruction. -/
def exec (i : Instr) (s : State) : Host.Outcome State Fault Refusal :=
  match i with
  -- the host's commands (30_encoding.md R69)
  | .begin cols rows => Sys2Proof.Machine.execBegin cols rows s
  | .init => Sys2Proof.Machine.execInit s
  | .clear => Sys2Proof.Machine.execClear s
  | .home => Sys2Proof.Machine.execHome s
  | .setCursor col row => Sys2Proof.Machine.execSetCursor col row s
  | .cursor => Sys2Proof.Machine.execCursor s
  | .noCursor => Sys2Proof.Machine.execNoCursor s
  | .blink => Sys2Proof.Machine.execBlink s
  | .noBlink => Sys2Proof.Machine.execNoBlink s
  | .display => Sys2Proof.Machine.execDisplay s
  | .noDisplay => Sys2Proof.Machine.execNoDisplay s
  | .scrollDisplayLeft => Sys2Proof.Machine.execScrollDisplayLeft s
  | .scrollDisplayRight => Sys2Proof.Machine.execScrollDisplayRight s
  | .leftToRight => Sys2Proof.Machine.execLeftToRight s
  | .rightToLeft => Sys2Proof.Machine.execRightToLeft s
  | .autoscroll => Sys2Proof.Machine.execAutoscroll s
  | .noAutoscroll => Sys2Proof.Machine.execNoAutoscroll s
  | .setBacklight level => Sys2Proof.Machine.execSetBacklight level s
  | .createChar slot bitmap => Sys2Proof.Machine.execCreateChar slot bitmap s
  | .write ch => Sys2Proof.Machine.execWrite ch s
  -- the forms the block sends (30_encoding.md R55 to R65, R50)
  | .clearByte => Sys2Proof.Machine.execClearByte s
  | .homeByte => Sys2Proof.Machine.execHomeByte s
  | .entryModeSet flags => Sys2Proof.Machine.execEntryModeSet flags s
  | .displayControl flags => Sys2Proof.Machine.execDisplayControl flags s
  | .shift right => Sys2Proof.Machine.execShift right s
  | .functionSet lines2 => Sys2Proof.Machine.execFunctionSet lines2 s
  | .setCgram p k => Sys2Proof.Machine.execSetCgram p k s
  | .setDdram p a => Sys2Proof.Machine.execSetDdram p a s
  | .resetNibble3 => Sys2Proof.Machine.execResetNibble3 s
  | .modeLockNibble2 => Sys2Proof.Machine.execModeLockNibble2 s
  | .dataByte p v => Sys2Proof.Machine.execDataByte p v s
  | .outputWord n isData p backlight => Sys2Proof.Machine.execOutputWord n isData p backlight s

end Sys2Proof.Machine
end

