-- ==== Sys2Proof/Machine/Fetch.lean ====
section
/-! DEFINITION. Where a step takes its instruction from: there is no program counter (10_state.md R11), so it is the
command port (30_encoding.md R75) or a transfer standing at the transmitters' input (assumption 12). -/

namespace Sys2Proof.Machine

/-- What a step finds to do. -/
inductive Fetched where
  /-- nothing: no transfer stands, and no command is presented or BUSY = 1 -/
  | idle
  /-- instruction i, to be run in the state after it was taken -/
  | run (i : Instr) (s : State)
  /-- something that has no meaning -/
  | refuse (r : Refusal)
  deriving DecidableEq, Repr

/-- Refused by name: a reserved command opcode (30_encoding.md R71), or a form the block never sends (R52, R64, R66). -/
def refusalOf : Reject → Refusal
  | .reservedOpcode op => .reservedOpcode op
  | .byteNeverEmitted v => .notEmitted (.byteNeverEmitted v)
  | .nibbleNeverEmitted n => .notEmitted (.nibbleNeverEmitted n)
  | .noPartition => .notEmitted .noPartition
  | .bothEnables w => .notEmitted (.bothEnables w)

/-- The instruction a decoder answered, to be run in state s. -/
def runDecoded (d : Except Reject Instr) (s : State) : Fetched :=
  match d with
  | .ok i => .run i s
  | .error e => .refuse (refusalOf e)

/-- A standing transfer comes first, since no command is taken while one is under way (40_transfer.md R91); a command
"is accepted when cmd_valid = 1 and BUSY = 0" (30_encoding.md R75). -/
def State.fetch (s : State) : Fetched :=
  match s.request with
  | some r => runDecoded (decodeRequest s.cfg r) s.takeRequest
  | none =>
    if s.cmdValid && !s.busy then runDecoded (decodeCommand s.cmdWord s.cmdGlyph) s.accept
    else .idle

/-- An encoded instruction is placed where the next step takes it. -/
def State.place (s : State) : Encoded → State
  | .command word glyph => State.present { s with request := none, busy := false } word glyph
  | .request r => { s with request := some r }

end Sys2Proof.Machine
end

