-- ==== Sys2Proof/Machine/Step.lean ====
section
/-! DEFINITION. One step of the block. -/

namespace Sys2Proof.Machine

/-- One step: a standing transfer is run; else a presented command is accepted, sampled once and run to its end
(30_encoding.md R75, 10_state.md R11); else nothing happens, whether because nothing is presented or because BUSY = 1
(70_reset_and_hazards.md R177). -/
def step (s : State) : Host.Outcome State Fault Refusal :=
  match s.fetch with
  | .idle => .next s
  | .run i s' => exec i s'
  | .refuse r => .refused r

/-- The state in which the next step runs the opcode-table word w of nbits bits: presented on the command port of an
idle block, or standing at the transmitters' input (assumptions 8, 13, 21 and 22). -/
def State.withFetchWord (s : State) (nbits w : Nat) : State :=
  s.place (tableEncoded nbits w)

end Sys2Proof.Machine
end

