-- ==== Sys2Proof/Machine/Observe.lean ====
section
/-! DEFINITION. How a run is observed, in the terms that claims use: the register view, the code-free sequence of a
transfer or command (40_transfer.md R92) and its effect on the bus side of the state, counts and waits (R93,
70_reset_and_hazards.md R183), and what a display half is strobed with (40_transfer.md R88). The machine does not use
this file. -/

namespace Sys2Proof.Machine

/-! ## The registers -/

/-- The six registers of 10_state.md R10. -/
structure Registers where
  addr : BitVec 7
  blLevel : Byte
  rows : Byte
  entry : BitVec 2
  dispctl : BitVec 3
  part : Partition
  deriving DecidableEq, Repr

/-- The registers of a state. -/
def State.registers (s : State) : Registers where
  addr := s.addr
  blLevel := s.blLevel
  rows := s.rows
  entry := s.entry
  dispctl := s.dispctl
  part := s.part

/-! ## Code-free sequences -/

/-- An event without what the transport's answers decide: "only the c inside each W(w, c), the R events, and the value
of PORT differ" (40_transfer.md R92). -/
inductive Shape where
  | busBegin
  | word (w : Byte)
  | wait (t : Nat)
  | done (op : Op) (status : Status) (result : Byte)
  deriving DecidableEq, Repr

/-- The words of a sequence, in order. -/
def shapeWords : List Shape → List Byte
  | [] => []
  | .word w :: rest => w :: shapeWords rest
  | .busBegin :: rest => shapeWords rest
  | .wait _ :: rest => shapeWords rest
  | .done _ _ _ :: rest => shapeWords rest

/-- The trace of a sequence whose k-th word is answered with `code k`: a non-zero code is reported right after its
write, and the sequence goes on (40_transfer.md R81, 60_exceptions.md R153, R154). -/
def annotate (address : BitVec 7) (code : Nat → Byte) : Nat → List Shape → List Event
  | _, [] => []
  | k, .word w :: rest =>
    Event.write address w (code k) ::
      ((if code k = 0 then [] else [Event.report (code k)]) ++ annotate address code (k + 1) rest)
  | k, .busBegin :: rest => Event.busBegin :: annotate address code k rest
  | k, .wait t :: rest => Event.delay t :: annotate address code k rest
  | k, .done op st r :: rest => Event.done op st r :: annotate address code k rest

/-- The code the transport answers to the k-th write from here on (60_exceptions.md R152). -/
def State.codeAt (s : State) (k : Nat) : Byte :=
  match s.answers[k]? with
  | some c => c
  | none => Config.freeCode (s.nWrites + k)

/-- Whether the expander takes the word of the k-th write from here on if that write fails (10_state.md R20). -/
def State.latchAt (s : State) (k : Nat) : Bool := Config.freeLatch (s.nWrites + k)

/-- PORT after the words ws, the first of them write number k: "After W(w, 0), PORT = w. After W(w, c) with c ≠ 0, PORT
is unspecified: either its old value or w" (10_state.md R20). -/
def portRun (code : Nat → Byte) (latch : Nat → Bool) : Nat → Byte → List Byte → Byte
  | _, port, [] => port
  | k, port, w :: ws =>
    portRun code latch (k + 1) (if code k = 0 then w else if latch k then w else port) ws

/-- The state after the sequence sh has run on the bus: PORT, the trace and the transport's answers have moved on, and
every other field is as before. -/
def State.emit (s : State) (sh : List Shape) : State :=
  { s with
    port := portRun s.codeAt s.latchAt 0 s.port (shapeWords sh)
    answers := s.answers.drop (shapeWords sh).length
    nWrites := s.nWrites + (shapeWords sh).length
    trace := s.trace ++ annotate s.addr s.codeAt 0 sh }

/-- The state after a command that sends sh and then ends with the given status and result (10_state.md R19,
30_encoding.md R75); the registers are as before. -/
def State.afterCommand (s : State) (sh : List Shape) (op : Op) (status : Status) (result : Byte) : State :=
  { s.emit (sh ++ [.done op status result]) with
    status := status
    result := result
    busy := false }

/-- The strobe pair of a nibble (30_encoding.md R53, 40_transfer.md R83). -/
def strobeShape (c : Config) (bl : Bool) (n : Nibble) (isData : Bool) (p : Partition) : List Shape :=
  [.word (c.packLines n isData p bl), .wait c.tHold,
   .word (c.packLines n isData p bl &&& ~~~(c.enTopMask ||| c.enBotMask)), .wait c.tSettle]

/-- A byte: high nibble, then low nibble (40_transfer.md R85). -/
def byteShape (c : Config) (bl : Bool) (v : Byte) (isData : Bool) (p : Partition) : List Shape :=
  strobeShape c bl (v.extractLsb' 4 4) isData p ++ strobeShape c bl (v.extractLsb' 0 4) isData p

/-- A nibble to both partitions, TOP first (40_transfer.md R86). -/
def nibbleToBoth (c : Config) (bl : Bool) (n : Nibble) : List Shape :=
  strobeShape c bl n false .top ++ strobeShape c bl n false .bottom

/-- An instruction byte to both partitions, TOP first (40_transfer.md R87). -/
def byteToBoth (c : Config) (bl : Bool) (v : Byte) : List Shape :=
  byteShape c bl v false .top ++ byteShape c bl v false .bottom

/-- Data bytes to one partition, in list order (20_memory.md R38). -/
def dataShape (c : Config) (bl : Bool) (p : Partition) : List Byte → List Shape
  | [] => []
  | v :: vs => byteShape c bl v true p ++ dataShape c bl p vs

/-! ## Counting -/

/-- The number of bus writes in a trace. -/
def writesIn : List Event → Nat
  | [] => 0
  | .write _ _ _ :: rest => writesIn rest + 1
  | .busBegin :: rest => writesIn rest
  | .delay _ :: rest => writesIn rest
  | .report _ :: rest => writesIn rest
  | .done _ _ _ :: rest => writesIn rest

/-- The waits in a trace, in order. -/
def waitsIn : List Event → List Nat
  | [] => []
  | .delay t :: rest => t :: waitsIn rest
  | .write _ _ _ :: rest => waitsIn rest
  | .busBegin :: rest => waitsIn rest
  | .report _ :: rest => waitsIn rest
  | .done _ _ _ :: rest => waitsIn rest

/-- Whether a cursor row is one of the four (10_state.md R18). -/
def rowOk (row : Byte) : Bool := row.toNat < 4

/-- Bus writes of each instruction (40_transfer.md R93; one for an output word, R81). -/
def instrWrites : Instr → Nat
  | .begin _ _ => 48
  | .setCursor _ row => if rowOk row then 4 else 0
  | .setBacklight _ => 2
  | .createChar _ _ => 72
  | .write _ => 4
  | .init | .clear | .home | .cursor | .noCursor | .blink | .noBlink | .display | .noDisplay
    | .scrollDisplayLeft | .scrollDisplayRight | .leftToRight | .rightToLeft | .autoscroll | .noAutoscroll
    | .clearByte | .homeByte | .entryModeSet _ | .displayControl _ | .shift _ | .functionSet _ => 8
  | .setCgram _ _ | .setDdram _ _ | .dataByte _ _ | .resetNibble3 | .modeLockNibble2 => 4
  | .outputWord _ _ _ _ => 1

/-- Waits of each instruction (40_transfer.md R93; none for an output word, R81). -/
def instrWaits : Instr → Nat
  | .begin _ _ => 52
  | .init => 9
  | .clear => 9
  | .home => 9
  | .setCursor _ row => if rowOk row then 4 else 0
  | .setBacklight _ => 2
  | .createChar _ _ => 72
  | .write _ => 4
  | .cursor | .noCursor | .blink | .noBlink | .display | .noDisplay | .scrollDisplayLeft | .scrollDisplayRight
    | .leftToRight | .rightToLeft | .autoscroll | .noAutoscroll | .clearByte | .homeByte
    | .entryModeSet _ | .displayControl _ | .shift _ | .functionSet _ => 8
  | .setCgram _ _ | .setDdram _ _ | .dataByte _ _ | .resetNibble3 | .modeLockNibble2 => 4
  | .outputWord _ _ _ _ => 0

/-- Sum of the least waits of each instruction under the default waits, in microseconds (70_reset_and_hazards.md R183). -/
def instrTime : Instr → Nat
  | .begin _ _ => 7312
  | .init => 1652
  | .clear => 1652
  | .home => 1652
  | .setCursor _ row => if rowOk row then 76 else 0
  | .setBacklight _ => 38
  | .createChar _ _ => 1368
  | .write _ => 76
  | .cursor | .noCursor | .blink | .noBlink | .display | .noDisplay | .scrollDisplayLeft | .scrollDisplayRight
    | .leftToRight | .rightToLeft | .autoscroll | .noAutoscroll | .clearByte | .homeByte
    | .entryModeSet _ | .displayControl _ | .shift _ | .functionSet _ => 152
  | .setCgram _ _ | .setDdram _ _ | .dataByte _ _ | .resetNibble3 | .modeLockNibble2 => 76
  | .outputWord _ _ _ _ => 0

/-- The instructions the host can issue (30_encoding.md R67). -/
def isCommand : Instr → Bool
  | .begin _ _ | .init | .clear | .home | .setCursor _ _ | .cursor | .noCursor | .blink | .noBlink | .display
    | .noDisplay | .scrollDisplayLeft | .scrollDisplayRight | .leftToRight | .rightToLeft | .autoscroll
    | .noAutoscroll | .setBacklight _ | .createChar _ _ | .write _ => true
  | .clearByte | .homeByte | .entryModeSet _ | .displayControl _ | .shift _ | .functionSet _ | .setCgram _ _
    | .setDdram _ _ | .resetNibble3 | .modeLockNibble2 | .dataByte _ _ | .outputWord _ _ _ _ => false

/-- The commands with a first operand A (30_encoding.md R69). -/
def usesA : Instr → Bool
  | .begin _ _ | .setCursor _ _ | .setBacklight _ | .createChar _ _ | .write _ => true
  | .init | .clear | .home | .cursor | .noCursor | .blink | .noBlink | .display | .noDisplay
    | .scrollDisplayLeft | .scrollDisplayRight | .leftToRight | .rightToLeft | .autoscroll | .noAutoscroll
    | .clearByte | .homeByte | .entryModeSet _ | .displayControl _ | .shift _ | .functionSet _ | .setCgram _ _
    | .setDdram _ _ | .resetNibble3 | .modeLockNibble2 | .dataByte _ _ | .outputWord _ _ _ _ => false

/-- The commands with a second operand B (30_encoding.md R69). -/
def usesB : Instr → Bool
  | .begin _ _ | .setCursor _ _ => true
  | .init | .clear | .home | .cursor | .noCursor | .blink | .noBlink | .display | .noDisplay
    | .scrollDisplayLeft | .scrollDisplayRight | .leftToRight | .rightToLeft | .autoscroll | .noAutoscroll
    | .setBacklight _ | .createChar _ _ | .write _ | .clearByte | .homeByte | .entryModeSet _
    | .displayControl _ | .shift _ | .functionSet _ | .setCgram _ _ | .setDdram _ _ | .resetNibble3
    | .modeLockNibble2 | .dataByte _ _ | .outputWord _ _ _ _ => false

/-- The side operand as its command uses it: whole by `createChar`, by no other (30_encoding.md R68, R70). -/
def usedGlyph (glyph : BitVec 64) : Instr → BitVec 64
  | .createChar _ _ => glyph
  | .begin _ _ | .init | .clear | .home | .setCursor _ _ | .cursor | .noCursor | .blink | .noBlink | .display
    | .noDisplay | .scrollDisplayLeft | .scrollDisplayRight | .leftToRight | .rightToLeft | .autoscroll
    | .noAutoscroll | .setBacklight _ | .write _ | .clearByte | .homeByte | .entryModeSet _ | .displayControl _
    | .shift _ | .functionSet _ | .setCgram _ _ | .setDdram _ _ | .resetNibble3 | .modeLockNibble2
    | .dataByte _ _ | .outputWord _ _ _ _ => 0

/-! ## What a display half sees -/

/-- The words on the lines: those whose write succeeded. DESIGN CHOICE for a failed write: its word is dropped, where the
spec leaves open whether it reached the lines (10_state.md R20, assumption 26). Every statement that uses this observer
has the success of every write as a premise (40_transfer.md R88). -/
def lineWords : List Event → List Byte
  | [] => []
  | .write _ w c :: rest => if c = 0 then w :: lineWords rest else lineWords rest
  | .busBegin :: rest => lineWords rest
  | .delay _ :: rest => lineWords rest
  | .report _ :: rest => lineWords rest
  | .done _ _ _ :: rest => lineWords rest

/-- The (register-select, nibble) pairs strobed into partition q while the lines go from word `port` through the words
ws: one for each high-then-low pulse of its enable line, read from the lines as the pulse ends (40_transfer.md R88; the
falling edge is PRESUMED, assumption 24). -/
def strobed (c : Config) (q : Partition) : Byte → List Byte → List (Bool × Nibble)
  | _, [] => []
  | port, w :: ws =>
    if port &&& c.enable q != 0 && w &&& c.enable q == 0 then
      (w &&& c.rsMask != 0, w.extractLsb' 4 4) :: strobed c q w ws
    else strobed c q w ws

/-- A byte as the two pairs it is delivered in (20_memory.md R36). -/
def byteNibbles (isData : Bool) (v : Byte) : List (Bool × Nibble) :=
  [(isData, v.extractLsb' 4 4), (isData, v.extractLsb' 0 4)]

/-- Data bytes as pairs, in list order. -/
def dataNibbles : List Byte → List (Bool × Nibble)
  | [] => []
  | v :: vs => byteNibbles true v ++ dataNibbles vs

/-- Delivered pairs as bytes with their register-select, two nibbles a byte, high nibble first. -/
def pairBytes : List (Bool × Nibble) → List (Bool × Byte)
  | (d, hi) :: (_, lo) :: rest => (d, hi.setWidth 8 <<< 4 ||| lo.setWidth 8) :: pairBytes rest
  | [_] => []
  | [] => []

/-- What each command delivers to partition q, a display half, when every write succeeds: the sequence of SendNibble
calls with p = q (40_transfer.md R88), command by command from the rules of 41_init.md, 42_display_commands.md and
43_backlight_glyph_write.md. -/
def delivered (s : State) (q : Partition) : Instr → List (Bool × Nibble)
  | .begin _ rows =>
    [(false, 0x3), (false, 0x3), (false, 0x3), (false, 0x2)] ++
    byteNibbles false (s.cfg.funcsetBase ||| (if 1 < rows.toNat then s.cfg.twoLine else 0)) ++
    byteNibbles false (0x08 ||| (s.dispctl ||| 0b100).setWidth 8) ++
    byteNibbles false 0x01 ++ byteNibbles false (0x04 ||| (s.entry ||| 0b10).setWidth 8)
  | .init => byteNibbles false 0x01
  | .clear => byteNibbles false 0x01
  | .home => byteNibbles false 0x02
  | .setCursor col row =>
    match row.toNat with
    | 0 => if q = .top then byteNibbles false (0x80 ||| col) else []
    | 1 => if q = .top then byteNibbles false (0x80 ||| (0x40 + col)) else []
    | 2 => if q = .bottom then byteNibbles false (0x80 ||| (0x14 + col)) else []
    | 3 => if q = .bottom then byteNibbles false (0x80 ||| (0x54 + col)) else []
    | _ => []
  | .cursor => byteNibbles false (0x08 ||| (s.dispctl ||| 0b010).setWidth 8)
  | .noCursor => byteNibbles false (0x08 ||| (s.dispctl &&& 0b101).setWidth 8)
  | .blink => byteNibbles false (0x08 ||| (s.dispctl ||| 0b001).setWidth 8)
  | .noBlink => byteNibbles false (0x08 ||| (s.dispctl &&& 0b110).setWidth 8)
  | .display => byteNibbles false (0x08 ||| (s.dispctl ||| 0b100).setWidth 8)
  | .noDisplay => byteNibbles false (0x08 ||| (s.dispctl &&& 0b011).setWidth 8)
  | .scrollDisplayLeft => byteNibbles false 0x18
  | .scrollDisplayRight => byteNibbles false 0x1C
  | .leftToRight => byteNibbles false (0x04 ||| (s.entry ||| 0b10).setWidth 8)
  | .rightToLeft => byteNibbles false (0x04 ||| (s.entry &&& 0b01).setWidth 8)
  | .autoscroll => byteNibbles false (0x04 ||| (s.entry ||| 0b01).setWidth 8)
  | .noAutoscroll => byteNibbles false (0x04 ||| (s.entry &&& 0b10).setWidth 8)
  | .setBacklight _ => []
  | .createChar slot bitmap =>
    byteNibbles false (0x40 ||| ((slot &&& 7) <<< 3)) ++
    dataNibbles [bitmap.row0, bitmap.row1, bitmap.row2, bitmap.row3, bitmap.row4, bitmap.row5, bitmap.row6, bitmap.row7]
  | .write ch => if q = s.part then byteNibbles true ch else []
  | .clearByte | .homeByte | .entryModeSet _ | .displayControl _ | .shift _ | .functionSet _ | .setCgram _ _
    | .setDdram _ _ | .resetNibble3 | .modeLockNibble2 | .dataByte _ _ | .outputWord _ _ _ _ => []

/-! ## The register effects of 10_state.md R23 -/

/-- Which command writes which register (10_state.md R23); what the block sends writes none. -/
def registersAfter (r : Registers) : Instr → Registers
  | .begin _ rows => { r with rows := rows, entry := r.entry ||| 0b10, dispctl := r.dispctl ||| 0b100 }
  | .home => { r with part := .top }
  | .setCursor _ row =>
    match row.toNat with
    | 0 => { r with part := .top }
    | 1 => { r with part := .top }
    | 2 => { r with part := .bottom }
    | 3 => { r with part := .bottom }
    | _ => r
  | .display => { r with dispctl := r.dispctl ||| 0b100 }
  | .noDisplay => { r with dispctl := r.dispctl &&& 0b011 }
  | .cursor => { r with dispctl := r.dispctl ||| 0b010 }
  | .noCursor => { r with dispctl := r.dispctl &&& 0b101 }
  | .blink => { r with dispctl := r.dispctl ||| 0b001 }
  | .noBlink => { r with dispctl := r.dispctl &&& 0b110 }
  | .leftToRight => { r with entry := r.entry ||| 0b10 }
  | .rightToLeft => { r with entry := r.entry &&& 0b01 }
  | .autoscroll => { r with entry := r.entry ||| 0b01 }
  | .noAutoscroll => { r with entry := r.entry &&& 0b10 }
  | .setBacklight level => { r with blLevel := level }
  | .init | .clear | .scrollDisplayLeft | .scrollDisplayRight | .createChar _ _ | .write _ | .clearByte
    | .homeByte | .entryModeSet _ | .displayControl _ | .shift _ | .functionSet _ | .setCgram _ _
    | .setDdram _ _ | .resetNibble3 | .modeLockNibble2 | .dataByte _ _ | .outputWord _ _ _ _ => r

end Sys2Proof.Machine
end

