-- ==== Sys2Proof/Safety.lean ====
section
/-! DEFINITION. What counts as a safe run: the discipline of the output trace and the invariant of a state. -/

namespace Sys2Proof.Machine

/-- "A word with both enable bits set is never produced" (30_encoding.md R52). -/
abbrev oneEnable (c : Config) (w : Byte) : Prop := w &&& c.enTopMask = 0 ∨ w &&& c.enBotMask = 0

/-- The discipline of a trace of a block with configuration c at the given address: every transaction goes to that
address (20_memory.md R31), no word raises both enable lines (30_encoding.md R52), and the reports are exactly those of
failed writes, each "immediately after that write's W event" with its code (60_exceptions.md R153). -/
def traceOk (c : Config) (address : BitVec 7) : List Event → Prop
  | [] => True
  | .write a w code :: rest =>
    a = address ∧ oneEnable c w ∧
      (if code = 0 then traceOk c address rest
       else match rest with
        | .report code' :: rest' => code' = code ∧ traceOk c address rest'
        | _ => False)
  | .report _ :: _ => False
  | .busBegin :: rest => traceOk c address rest
  | .delay _ :: rest => traceOk c address rest
  | .done _ _ _ :: rest => traceOk c address rest

/-- The invariant of a state: its configuration is admissible (00_scope.md R5, 30_encoding.md R50), its trace keeps the
discipline, RESULT is 0 or 1, and a failed command's RESULT is 0 (10_state.md R19, 60_exceptions.md R151). -/
def State.Inv (s : State) : Prop :=
  s.cfg.Valid ∧ traceOk s.cfg s.addr s.trace ∧ (s.result = 0 ∨ s.result = 1) ∧
    (s.status = .invalidArgument → s.result = 0)

/-- Both enable lines are low (40_transfer.md R89). -/
abbrev State.linesIdle (s : State) : Prop := s.port &&& s.cfg.enTopMask = 0 ∧ s.port &&& s.cfg.enBotMask = 0

/-- A command can be accepted now: nothing is under way and one is presented (30_encoding.md R75). -/
abbrev State.ready (s : State) : Prop := s.request = none ∧ s.busy = false ∧ s.cmdValid = true

end Sys2Proof.Machine
end

