-- ==== Sys2Proof/WellFormed.lean ====
section
/-! DEFINITION. Which instructions are well formed. Every operand value of every command is (30_encoding.md R72: nothing
is reserved in an operand); of the forms the block sends, an address instruction names a partition that exists. -/

namespace Sys2Proof

/-- A partition that is a display half. -/
def Partition.isHalf : Partition → Bool
  | .none => false
  | .top => true
  | .bottom => true

/-- Well-formed instructions. SET_DDRAM goes to a partition of the Row Map and SET_CGRAM to each of TOP and BOTTOM
(42_display_commands.md R112, 43_backlight_glyph_write.md R141), never to NONE. A data byte may go to NONE
(43_backlight_glyph_write.md R142, corner case PART = NONE). An output word with both enable bits (30_encoding.md R52)
cannot be written as a term at all. -/
def Instr.wellFormed : Instr → Bool
  | .begin _ _ => true
  | .init => true
  | .clear => true
  | .home => true
  | .setCursor _ _ => true
  | .cursor => true
  | .noCursor => true
  | .blink => true
  | .noBlink => true
  | .display => true
  | .noDisplay => true
  | .scrollDisplayLeft => true
  | .scrollDisplayRight => true
  | .leftToRight => true
  | .rightToLeft => true
  | .autoscroll => true
  | .noAutoscroll => true
  | .setBacklight _ => true
  | .createChar _ _ => true
  | .write _ => true
  | .clearByte => true
  | .homeByte => true
  | .entryModeSet _ => true
  | .displayControl _ => true
  | .shift _ => true
  | .functionSet _ => true
  | .setCgram p _ => p.isHalf
  | .setDdram p _ => p.isHalf
  | .resetNibble3 => true
  | .modeLockNibble2 => true
  | .dataByte _ _ => true
  | .outputWord _ _ _ _ => true

end Sys2Proof
end

