-- ==== Sys2Proof/Certificates/Slice0/Obligations.lean ====
section
/-! DEFINITION. The statements for the provers. Sequences are written with `Shape`, the code-free view of
Machine/Observe.lean: `State.emit` is the state after a sequence has run on the bus under whatever codes the transport
answers, and `State.afterCommand` adds the end of a command. Both leave every other field of the state as it was, so an
equality `exec i s = .next (…)` is the instruction's result, its frame and its completion in one. -/

open Sys2Proof Sys2Proof.Machine

/-! ## Encodings -/

/-- Decoding the encoding of a well-formed instruction gives it back, for every operand value and every admissible
configuration (30_encoding.md R50, R55 to R65, R68, R69). That an admissible configuration's function-set bytes are told
apart is DEDUCED (assumption 2). -/
def Obligations.DecodeOfEncode : Prop :=
  ∀ (c : Config) (i : Instr), c.Valid → i.wellFormed = true → decode c (encode c i) = .ok i

/-- A command word means its used fields and nothing else: what it decodes to is encoded by the same fields with the
unused ones cleared, and every word with the same used fields decodes to the same command (30_encoding.md R69, R70). -/
def Obligations.CommandWordMeansItsUsedFields : Prop :=
  ∀ (c : Config) (word : BitVec 21) (glyph : BitVec 64) (i : Instr), decodeCommand word glyph = .ok i →
    encode c i = .command (commandWord (opField word) (if usesA i then aField word else 0)
      (if usesB i then bField word else 0)) (usedGlyph glyph i) ∧
    ∀ (w : BitVec 21) (g : BitVec 64), opField w = opField word → (usesA i = true → aField w = aField word) →
      (usesB i = true → bField w = bField word) → usedGlyph g i = usedGlyph glyph i → decodeCommand w g = .ok i

/-- Opcodes 0x14 to 0x1F, and no others, are invalid, and a step refuses a command presented with one of them
(30_encoding.md R71). -/
def Obligations.ReservedOpcodesAreRefused : Prop :=
  (∀ (word : BitVec 21) (glyph : BitVec 64),
    decodeCommand word glyph = .error (.reservedOpcode (word.extractLsb' 16 5)) ↔
      0x14 ≤ (word.extractLsb' 16 5).toNat) ∧
  (∀ (word : BitVec 21) (glyph : BitVec 64), (word.extractLsb' 16 5).toNat < 0x14 →
    ∃ i, decodeCommand word glyph = .ok i) ∧
  (∀ s : State, s.ready → 0x14 ≤ (s.cmdWord.extractLsb' 16 5).toNat →
    step s = .refused (.reservedOpcode (s.cmdWord.extractLsb' 16 5)))

/-- A transfer means its form: what it decodes to is encoded by the same transfer, or by the same byte with the partition
cleared where the byte is a broadcast; so no bit of a byte or output word is dropped (30_encoding.md R50, R55). That a
transfer carries its partition is the model's (assumption 12), and what an admissible configuration says of the
function-set bytes is DEDUCED (assumption 2). -/
def Obligations.RequestMeansItsForm : Prop :=
  ∀ (c : Config) (r : Request) (i : Instr), c.Valid → decodeRequest c r = .ok i →
    i.wellFormed = true ∧
    (encode c i = .request r ∨ ∃ v p, r = .instrByte v p ∧ encode c i = .request (.instrByte v .none))

/-- The instruction bytes with a row are exactly those outside the list of 30_encoding.md R66, under every admissible
configuration with the default function-set numbers. -/
def Obligations.InstructionBytesWithARow : Prop :=
  ∀ (c : Config) (v : Byte), c.Valid → c.funcsetBase = 0x20 → c.twoLine = 0x08 →
    ((∃ i, decodeRequest c (.instrByte v .top) = .ok i) ↔
      ¬ (v = 0x00 ∨ v = 0x03 ∨ (0x10 ≤ v.toNat ∧ v.toNat ≤ 0x17) ∨ (0x19 ≤ v.toNat ∧ v.toNat ≤ 0x1B) ∨
        (0x1D ≤ v.toNat ∧ v.toNat ≤ 0x1F) ∨ (0x21 ≤ v.toNat ∧ v.toNat ≤ 0x27) ∨
        (0x29 ≤ v.toNat ∧ v.toNat ≤ 0x3F) ∨ (0x40 ≤ v.toNat ∧ v.toNat ≤ 0x7F ∧ v.toNat % 8 ≠ 0)))

/-- A few words written out from the spec's encodings decode to the instructions they stand for (30_encoding.md R55, R64,
R69; 95_test_vectors.md). -/
def Obligations.SampleWordsDecode : Prop :=
  decodeCommand 0b00000_00010100_00000100 0 = .ok (.begin 20 4) ∧
  decodeCommand 0b00100_00000101_00000010 0 = .ok (.setCursor 5 2) ∧
  decodeCommand 0b10001_11111111_00000000 0 = .ok (.setBacklight 255) ∧
  decodeCommand 0b10011_01000001_00000000 0 = .ok (.write 0x41) ∧
  decodeCommand 0b10010_00001001_00000000 0x001111111F11110E =
    .ok (.createChar 9 ⟨0x0E, 0x11, 0x11, 0x1F, 0x11, 0x11, 0x11, 0x00⟩) ∧
  decodeRequest Config.reference (.instrByte 0b00001110 .none) = .ok (.displayControl 0b110) ∧
  decodeRequest Config.reference (.instrByte 0b10011001 .bottom) = .ok (.setDdram .bottom 0x19) ∧
  decodeRequest Config.reference (.instrNibble 0b0010) = .ok .modeLockNibble2

/-! ## The step -/

/-- A step of an idle block runs the presented command: it is taken from the port, BUSY rises, and the step is `exec` of
the decoded command (30_encoding.md R75). The clearing of `cmd_valid` is the model's (assumption 7). -/
def Obligations.StepRunsThePresentedCommand : Prop :=
  ∀ (s : State) (i : Instr), s.ready → decodeCommand s.cmdWord s.cmdGlyph = .ok i →
    step s = exec i { s with cmdValid := false, busy := true }

/-- A step runs a standing transfer, whatever stands on the command port (the model's own fetch, assumption 12). -/
def Obligations.StepRunsTheStandingTransfer : Prop :=
  ∀ (s : State) (r : Request) (i : Instr), s.request = some r → decodeRequest s.cfg r = .ok i →
    step s = exec i { s with request := none }

/-- A command presented while BUSY = 1 is ignored: no state change, no trace event, no `done`
(70_reset_and_hazards.md R177). -/
def Obligations.CommandIgnoredWhileBusy : Prop :=
  ∀ (s : State) (word : BitVec 21) (glyph : BitVec 64), s.request = none → s.busy = true →
    step (s.present word glyph) = .next (s.present word glyph)

/-- With nothing standing and nothing presented a step changes nothing (the model's choice, assumption 14). -/
def Obligations.StepIdlesWithNothingPresented : Prop :=
  ∀ s : State, s.request = none → s.cmdValid = false → step s = .next s

/-- A standing transfer that is no form the block sends is refused by name, and a word with both enable bits is one
(30_encoding.md R52, R64, R66; that a step meets one at all is the model's, assumptions 12 and 20). -/
def Obligations.NeverEmittedFormsAreRefused : Prop :=
  (∀ (s : State) (r : Request) (e : Reject), s.request = some r → decodeRequest s.cfg r = .error e →
    step s = .refused (.notEmitted e)) ∧
  (∀ (c : Config) (w : Byte), w &&& c.enTopMask ≠ 0 → w &&& c.enBotMask ≠ 0 →
    decodeRequest c (.portWord w) = .error (.bothEnables w))

/-! ## The transfer micro-operations -/

/-- Every field of a packed word reads back: the nibble in bits 7:4, register-select for data, the enable line of the
addressed partition and of no other, the backlight line for any non-zero level (30_encoding.md R50, R52, 40_transfer.md
R80). -/
def Obligations.PackedWordFields : Prop :=
  ∀ (s : State) (n : Nibble) (isData : Bool) (p : Partition), s.cfg.MasksOk →
    (s.packWord n isData p).extractLsb' 4 4 = n ∧
    (s.packWord n isData p &&& s.cfg.rsMask ≠ 0 ↔ isData = true) ∧
    (s.packWord n isData p &&& s.cfg.enTopMask ≠ 0 ↔ p = .top) ∧
    (s.packWord n isData p &&& s.cfg.enBotMask ≠ 0 ↔ p = .bottom) ∧
    (s.packWord n isData p &&& s.cfg.blMask ≠ 0 ↔ s.blLevel ≠ 0)

/-- The released word of a strobe pair is the word that addresses neither partition: N, RS and BL are equal in the two,
both enables are clear, and for NONE the two words are equal (30_encoding.md R53). -/
def Obligations.ReleasedWordAddressesNeither : Prop :=
  ∀ (c : Config) (n : Nibble) (isData : Bool) (p : Partition) (bl : Bool), c.MasksOk →
    releaseWord c (c.packLines n isData p bl) = c.packLines n isData .none bl

/-- One bus write: one transaction to ADDR, its answered code returned, a non-zero code reported right after it, PORT the
word on success and otherwise the old value or the word; nothing else moves but the transport's answers
(40_transfer.md R81). -/
def Obligations.BusWriteRule : Prop :=
  ∀ (s : State) (w c : Byte) (rest : List Byte), s.answers = c :: rest →
    (s.busWrite w).2 = c ∧
    ∃ port', (c = 0 → port' = w) ∧ (port' = s.port ∨ port' = w) ∧
      (s.busWrite w).1 = { s with
        port := port'
        answers := rest
        nWrites := s.nWrites + 1
        trace := s.trace ++ [Event.write s.addr w c] ++ (if c ≠ 0 then [Event.report c] else []) }

/-- A nibble is a strobe: the asserted word, the hold wait, the same word with both enables cleared, the settle wait, in
that order whatever the codes, and nothing else moves; its status is the first non-zero code, else success
(40_transfer.md R83, R84). -/
def Obligations.SendNibbleRule : Prop :=
  ∀ (s : State) (n : Nibble) (isData : Bool) (p : Partition) (c1 c2 : Byte) (rest : List Byte),
    s.answers = c1 :: c2 :: rest →
    let w1 := s.packWord n isData p
    let w0 := w1 &&& ~~~(s.cfg.enTopMask ||| s.cfg.enBotMask)
    (s.sendNibble n isData p).2 = (if c1 ≠ 0 then c1 else c2) ∧
    ∃ port', (c2 = 0 → port' = w0) ∧ (port' = s.port ∨ port' = w1 ∨ port' = w0) ∧
      (s.sendNibble n isData p).1 = { s with
        port := port'
        answers := rest
        nWrites := s.nWrites + 2
        trace := s.trace ++ [Event.write s.addr w1 c1] ++ (if c1 ≠ 0 then [Event.report c1] else []) ++
          [Event.delay s.cfg.tHold] ++ [Event.write s.addr w0 c2] ++
          (if c2 ≠ 0 then [Event.report c2] else []) ++ [Event.delay s.cfg.tSettle] }

/-! ## The forms the block sends -/

/-- CLEAR, HOME, ENTRY_MODE_SET, DISPLAY_CONTROL, SHIFT and FUNCTION_SET are sent to both partitions, TOP first; nothing
but the bus side of the state moves (30_encoding.md R56 to R61, 40_transfer.md R87). -/
def Obligations.BroadcastFormsReachBothPartitions : Prop :=
  ∀ s : State,
    exec .clearByte s = .next (s.emit (byteToBoth s.cfg s.backlight 0x01)) ∧
    exec .homeByte s = .next (s.emit (byteToBoth s.cfg s.backlight 0x02)) ∧
    (∀ e, exec (.entryModeSet e) s = .next (s.emit (byteToBoth s.cfg s.backlight (0x04 ||| e.setWidth 8)))) ∧
    (∀ d, exec (.displayControl d) s = .next (s.emit (byteToBoth s.cfg s.backlight (0x08 ||| d.setWidth 8)))) ∧
    exec (.shift false) s = .next (s.emit (byteToBoth s.cfg s.backlight 0x18)) ∧
    exec (.shift true) s = .next (s.emit (byteToBoth s.cfg s.backlight 0x1C)) ∧
    exec (.functionSet false) s = .next (s.emit (byteToBoth s.cfg s.backlight s.cfg.funcsetBase)) ∧
    exec (.functionSet true) s =
      .next (s.emit (byteToBoth s.cfg s.backlight (s.cfg.funcsetBase ||| s.cfg.twoLine)))

/-- SET_CGRAM, SET_DDRAM and DATA_BYTE are sent to the one partition they name, the first two with RS = 0 and the last
with RS = 1; nothing but the bus side of the state moves (30_encoding.md R62, R63, R65, 40_transfer.md R85). -/
def Obligations.AddressedFormsReachOnePartition : Prop :=
  ∀ (s : State) (p : Partition),
    (∀ k, exec (.setCgram p k) s =
      .next (s.emit (byteShape s.cfg s.backlight (0x40 ||| (k.setWidth 8 <<< 3)) false p))) ∧
    (∀ a, exec (.setDdram p a) s = .next (s.emit (byteShape s.cfg s.backlight (0x80 ||| a.setWidth 8) false p))) ∧
    (∀ v, exec (.dataByte p v) s = .next (s.emit (byteShape s.cfg s.backlight v true p)))

/-- The reset nibbles 0x3 and 0x2 go out in single-nibble form, RS = 0, to TOP and then to BOTTOM; nothing but the bus
side of the state moves (30_encoding.md R64, 40_transfer.md R86). -/
def Obligations.ResetNibblesReachBothPartitions : Prop :=
  ∀ s : State,
    exec .resetNibble3 s = .next (s.emit (nibbleToBoth s.cfg s.backlight 0x3)) ∧
    exec .modeLockNibble2 s = .next (s.emit (nibbleToBoth s.cfg s.backlight 0x2))

/-- OUTPUT_WORD is one bus write of the packed fields, with no wait; nothing but the bus side of the state moves
(30_encoding.md R50, 40_transfer.md R81). That it runs on its own (assumption 12) and keeps its own backlight bit whatever
BL_LEVEL holds (assumption 25) is the model's choice. -/
def Obligations.OutputWordIsOneBusWrite : Prop :=
  ∀ (s : State) (n : Nibble) (isData : Bool) (p : Partition) (bl : Bool),
    exec (.outputWord n isData p bl) s =
      .next (s.emit [.word ((n.setWidth 8 <<< 4) ||| (if isData then s.cfg.rsMask else 0) |||
        (match p with
          | .none => 0
          | .top => s.cfg.enTopMask
          | .bottom => s.cfg.enBotMask) ||| (if bl then s.cfg.blMask else 0))])

/-! ## The commands -/

/-- `clear` (42_display_commands.md R110). -/
def Obligations.ClearRule : Prop :=
  ∀ s : State, exec .clear s =
    .next (s.afterCommand (byteToBoth s.cfg s.backlight 0x01 ++ [.wait s.cfg.tClear]) .clear .ok 0)

/-- `init` does exactly what `clear` does, its trace included, and nothing more (41_init.md R106). -/
def Obligations.InitRule : Prop :=
  ∀ s : State, exec .init s = exec .clear s ∧ exec .init s =
    .next (s.afterCommand (byteToBoth s.cfg s.backlight 0x01 ++ [.wait s.cfg.tClear]) .clear .ok 0)

/-- `home`: PART becomes TOP whatever it held (42_display_commands.md R111). -/
def Obligations.HomeRule : Prop :=
  ∀ s : State, exec .home s =
    .next { s.afterCommand (byteToBoth s.cfg s.backlight 0x02 ++ [.wait s.cfg.tHome]) .home .ok 0 with part := .top }

/-- `setCursor` to each of the four rows: PART is the row's partition, and the byte `0x80 | ((base + col) mod 256)` goes
to it only (42_display_commands.md R112, 10_state.md R18); any other row ends the command with InvalidArgument, nothing
sent and no register changed (60_exceptions.md R151). -/
def Obligations.SetCursorRule : Prop :=
  ∀ (s : State) (col row : Byte),
    exec (.setCursor col row) s = .next (match row.toNat with
      | 0 => { s.afterCommand (byteShape s.cfg s.backlight (0x80 ||| (0x00 + col)) false .top) .setCursor .ok 0 with
                part := .top }
      | 1 => { s.afterCommand (byteShape s.cfg s.backlight (0x80 ||| (0x40 + col)) false .top) .setCursor .ok 0 with
                part := .top }
      | 2 => { s.afterCommand (byteShape s.cfg s.backlight (0x80 ||| (0x14 + col)) false .bottom) .setCursor .ok 0 with
                part := .bottom }
      | 3 => { s.afterCommand (byteShape s.cfg s.backlight (0x80 ||| (0x54 + col)) false .bottom) .setCursor .ok 0 with
                part := .bottom }
      | _ => { s with
                status := .invalidArgument
                result := 0
                busy := false
                trace := s.trace ++ [.done .setCursor .invalidArgument 0] })

/-- InvalidArgument in full: for every row outside 0..3 STATUS is 1, RESULT is 0, the `Done` event is appended and BUSY
is 0; no register, no byte of PORT and nothing else of the state changes (60_exceptions.md R151). -/
def Obligations.RowOutsideFourRaisesInvalidArgument : Prop :=
  ∀ (s : State) (col row : Byte), 4 ≤ row.toNat →
    exec (.setCursor col row) s = .next { s with
      status := .invalidArgument
      result := 0
      busy := false
      trace := s.trace ++ [.done .setCursor .invalidArgument 0] }

/-- The six display-control commands set or clear their one bit of DISPCTL, keep the other two, and broadcast
`0x08 | DISPCTL` (42_display_commands.md R113 to R118). -/
def Obligations.DisplayControlRules : Prop :=
  ∀ s : State,
    let does := fun (d : BitVec 3) (op : Op) =>
      (Host.Outcome.next { s.afterCommand (byteToBoth s.cfg s.backlight (0x08 ||| d.setWidth 8)) op .ok 0 with
        dispctl := d } : Host.Outcome State Fault Refusal)
    exec .display s = does (s.dispctl ||| 0b100) .display ∧
    exec .noDisplay s = does (s.dispctl &&& 0b011) .noDisplay ∧
    exec .cursor s = does (s.dispctl ||| 0b010) .cursor ∧
    exec .noCursor s = does (s.dispctl &&& 0b101) .noCursor ∧
    exec .blink s = does (s.dispctl ||| 0b001) .blink ∧
    exec .noBlink s = does (s.dispctl &&& 0b110) .noBlink

/-- The two scroll commands broadcast SHIFT and write no register (42_display_commands.md R119, R120). -/
def Obligations.ScrollRules : Prop :=
  ∀ s : State,
    exec .scrollDisplayLeft s =
      .next (s.afterCommand (byteToBoth s.cfg s.backlight 0x18) .scrollDisplayLeft .ok 0) ∧
    exec .scrollDisplayRight s =
      .next (s.afterCommand (byteToBoth s.cfg s.backlight 0x1C) .scrollDisplayRight .ok 0)

/-- The four entry-mode commands set or clear their one bit of ENTRY, keep the other, and broadcast `0x04 | ENTRY`
(42_display_commands.md R121 to R124). -/
def Obligations.EntryModeRules : Prop :=
  ∀ s : State,
    let does := fun (e : BitVec 2) (op : Op) =>
      (Host.Outcome.next { s.afterCommand (byteToBoth s.cfg s.backlight (0x04 ||| e.setWidth 8)) op .ok 0 with
        entry := e } : Host.Outcome State Fault Refusal)
    exec .leftToRight s = does (s.entry ||| 0b10) .leftToRight ∧
    exec .rightToLeft s = does (s.entry &&& 0b01) .rightToLeft ∧
    exec .autoscroll s = does (s.entry ||| 0b01) .autoscroll ∧
    exec .noAutoscroll s = does (s.entry &&& 0b10) .noAutoscroll

/-- `setBacklight` stores the level as given and sends one zero nibble to neither partition, the backlight bit of its
words following the new level (43_backlight_glyph_write.md R140). -/
def Obligations.SetBacklightRule : Prop :=
  ∀ (s : State) (level : Byte), exec (.setBacklight level) s =
    .next { s.afterCommand (strobeShape s.cfg (level != 0) 0x0 false .none) .setBacklight .ok 0 with blLevel := level }

/-- `createChar` sends the whole glyph to TOP, then to BOTTOM: SET_CGRAM of slot & 7, then the eight rows unmasked, in
index order; no register is written (43_backlight_glyph_write.md R141). -/
def Obligations.CreateCharRule : Prop :=
  ∀ (s : State) (slot : Byte) (b : Bitmap),
    let glyphTo := fun p =>
      byteShape s.cfg s.backlight (0x40 ||| ((slot &&& 7) <<< 3)) false p ++
      byteShape s.cfg s.backlight b.row0 true p ++ byteShape s.cfg s.backlight b.row1 true p ++
      byteShape s.cfg s.backlight b.row2 true p ++ byteShape s.cfg s.backlight b.row3 true p ++
      byteShape s.cfg s.backlight b.row4 true p ++ byteShape s.cfg s.backlight b.row5 true p ++
      byteShape s.cfg s.backlight b.row6 true p ++ byteShape s.cfg s.backlight b.row7 true p
    exec (.createChar slot b) s = .next (s.afterCommand (glyphTo .top ++ glyphTo .bottom) .createChar .ok 0)

/-- `write` sends the character code as a data byte to PART only and answers RESULT = 1 whatever the transport answers
(43_backlight_glyph_write.md R142). -/
def Obligations.WriteRule : Prop :=
  ∀ (s : State) (ch : Byte), exec (.write ch) s =
    .next (s.afterCommand (byteShape s.cfg s.backlight ch true s.part) .write .ok 1)

/-- `begin`: ROWS, `busBegin()`, the three 0x3 pairs with their waits, the 0x2 pair, function set with the two-line flag
if rows > 1, then the bodies of `display`, `clear` and `leftToRight`; cols influences nothing (41_init.md R100). -/
def Obligations.BeginRule : Prop :=
  ∀ (s : State) (cols rows : Byte),
    let d := s.dispctl ||| 0b100
    let e := s.entry ||| 0b10
    exec (.begin cols rows) s = .next { s.afterCommand
      ([.busBegin] ++
       nibbleToBoth s.cfg s.backlight 0x3 ++ [.wait s.cfg.tInit1] ++
       nibbleToBoth s.cfg s.backlight 0x3 ++ [.wait s.cfg.tInit2] ++
       nibbleToBoth s.cfg s.backlight 0x3 ++ [.wait s.cfg.tInit3] ++
       nibbleToBoth s.cfg s.backlight 0x2 ++
       byteToBoth s.cfg s.backlight (s.cfg.funcsetBase ||| (if 1 < rows.toNat then s.cfg.twoLine else 0)) ++
       byteToBoth s.cfg s.backlight (0x08 ||| d.setWidth 8) ++
       byteToBoth s.cfg s.backlight 0x01 ++ [.wait s.cfg.tClear] ++
       byteToBoth s.cfg s.backlight (0x04 ||| e.setWidth 8)) .begin .ok 0 with
      rows := rows
      dispctl := d
      entry := e }

/-! ## Rules of the whole machine -/

/-- Every command completes in every state and writes exactly the registers of the lifecycle table, with the values the
table gives (10_state.md R23). -/
def Obligations.RegistersFollowTheLifecycleTable : Prop :=
  ∀ (i : Instr) (s : State), isCommand i = true →
    ∃ t, exec i s = .next t ∧ t.registers = registersAfter s.registers i

/-- What no instruction changes: the configuration, the command port's inputs and the transmitters' input; and the trace
only grows (00_scope.md R5, R7, 30_encoding.md R75). -/
def Obligations.InputsAndConfigurationKept : Prop :=
  ∀ (i : Instr) (s : State), ∃ t new, exec i s = .next t ∧ t.trace = s.trace ++ new ∧ t.cfg = s.cfg ∧
    t.cmdValid = s.cmdValid ∧ t.cmdWord = s.cmdWord ∧ t.cmdGlyph = s.cmdGlyph ∧ t.request = s.request

/-- Errors never shorten a sequence: from two states with the same configuration and registers an instruction issues the
same code-free sequence and leaves the same registers, and a command leaves the same STATUS and RESULT, whatever the
transport answers in each (40_transfer.md R92, 60_exceptions.md R154). -/
def Obligations.ErrorsNeverShortenASequence : Prop :=
  ∀ (i : Instr) (s s' : State), s'.cfg = s.cfg → s'.registers = s.registers →
    ∃ t t' sh, exec i s = .next t ∧ exec i s' = .next t' ∧
      t.trace = s.trace ++ annotate s.addr s.codeAt 0 sh ∧
      t'.trace = s'.trace ++ annotate s.addr s'.codeAt 0 sh ∧
      t'.registers = t.registers ∧
      (isCommand i = true → t'.status = t.status ∧ t'.result = t.result ∧ t'.busy = t.busy)

/-- How a command ends: STATUS is 1 exactly for `setCursor` with a row outside 0..3, RESULT is 1 after `write` and 0
after every other command, BUSY is 0, and the last event is the `Done` that says so; a form the block sends ends no
command (10_state.md R19, 30_encoding.md R75). -/
def Obligations.StatusAndResultAtTheEnd : Prop :=
  ∀ (i : Instr) (s : State), ∃ t, exec i s = .next t ∧
    (isCommand i = true →
      t.busy = false ∧
      (t.status = .invalidArgument ↔ ∃ col row, i = .setCursor col row ∧ 4 ≤ row.toNat) ∧
      t.result = (match i with
        | .write _ => 1
        | _ => 0) ∧
      ∃ op, t.trace.getLast? = some (.done op t.status t.result)) ∧
    (isCommand i = false → t.busy = s.busy ∧ t.status = s.status ∧ t.result = s.result)

/-- The number of bus writes, of waits and of `B` events of the four micro-operations and of every command
(40_transfer.md R93). -/
def Obligations.TransferAndCommandCounts : Prop :=
  ∀ s : State,
    let appends := fun (t : State) (writes waits begins : Nat) =>
      ∃ new, t.trace = s.trace ++ new ∧ writesIn new = writes ∧ (waitsIn new).length = waits ∧
        new.count .busBegin = begins
    (∀ n isData p, appends (s.sendNibble n isData p).1 2 2 0) ∧
    (∀ v isData p, appends (s.send v isData p) 4 4 0) ∧
    (∀ n, appends (s.broadcastNibble n) 4 4 0) ∧
    (∀ v, appends (s.broadcast v) 8 8 0) ∧
    (∀ i, isCommand i = true → ∃ t, exec i s = .next t ∧
      appends t (instrWrites i) (instrWaits i) (match i with
        | .begin _ _ => 1
        | _ => 0))

/-- The sum of the least waits of every command and of every form the block sends, under the spec's values
(70_reset_and_hazards.md R183; that the forms are instructions is assumption 12). -/
def Obligations.CommandTimes : Prop :=
  ∀ (i : Instr) (s : State),
    s.cfg.tHold = 1 → s.cfg.tSettle = 37 → s.cfg.tClear = 1500 → s.cfg.tHome = 1500 →
    s.cfg.tInit1 = 4500 → s.cfg.tInit2 = 200 → s.cfg.tInit3 = 200 →
    ∃ t new, exec i s = .next t ∧ t.trace = s.trace ++ new ∧ (waitsIn new).sum = instrTime i

/-- What a display half sees: under an admissible configuration, when both enable lines are low and every write succeeds,
the (RS, nibble) pairs strobed into each half by a command are exactly those its rule sends to that half, in order
(40_transfer.md R88). That a half takes the nibble as its enable line falls is PRESUMED (assumption 24). -/
def Obligations.StrobesDeliverWhatTheRuleSends : Prop :=
  ∀ (i : Instr) (s : State) (q : Partition), isCommand i = true → s.cfg.Valid → s.linesIdle →
    (∀ k, k < instrWrites i → s.codeAt k = 0) → (q = .top ∨ q = .bottom) →
    ∃ t new, exec i s = .next t ∧ t.trace = s.trace ++ new ∧
      strobed s.cfg q s.port (lineWords new) = delivered s q i

/-- Every instruction byte that a command delivers in byte form has a row of the table: its decoding succeeds, under an
admissible configuration, when both enable lines are low and every write succeeds. The first four nibbles of `begin` are
single (30_encoding.md R54, R55, R66). It rests on two readings of the model: that the function-set bytes of an admissible
configuration are told apart (`Config.FunctionSetOk`, DEDUCED, assumption 2; R55 gives it for the default numbers only),
and that a half takes the nibble as its enable line falls (PRESUMED, assumption 24). -/
def Obligations.DeliveredInstructionBytesHaveRows : Prop :=
  ∀ (i : Instr) (s : State) (q : Partition) (v : Byte), isCommand i = true → s.cfg.Valid → s.linesIdle →
    (∀ k, k < instrWrites i → s.codeAt k = 0) → (q = .top ∨ q = .bottom) →
    ∃ t new, exec i s = .next t ∧ t.trace = s.trace ++ new ∧
      ((false, v) ∈ pairBytes ((strobed s.cfg q s.port (lineWords new)).drop
          (match i with
            | .begin _ _ => 4
            | _ => 0)) →
        ∃ j, decodeRequest s.cfg (.instrByte v q) = .ok j)

/-- Enable lines idle low, under an admissible configuration: after a command that writes at all and whose last write succeeded, both enable bits of PORT
are 0 (40_transfer.md R89). -/
def Obligations.EnableLinesIdleLow : Prop :=
  ∀ (i : Instr) (s : State), isCommand i = true → s.cfg.Valid → 0 < instrWrites i →
    s.codeAt (instrWrites i - 1) = 0 →
    ∃ t, exec i s = .next t ∧ t.port &&& s.cfg.enTopMask = 0 ∧ t.port &&& s.cfg.enBotMask = 0

/-- Backlight on every word, under an admissible configuration: each word of a command carries the backlight bit if and only if BL_LEVEL is not zero, the
level that the command itself stores included (40_transfer.md R90, 10_state.md R22). A standing output word, which is no
command, keeps its own bit (assumption 25). -/
def Obligations.BacklightOnEveryWord : Prop :=
  ∀ (i : Instr) (s : State), isCommand i = true → s.cfg.Valid →
    ∃ t new, exec i s = .next t ∧ t.trace = s.trace ++ new ∧
      ∀ a w c, Event.write a w c ∈ new → (w &&& s.cfg.blMask ≠ 0 ↔ t.blLevel ≠ 0)

/-- PORT after any instruction is its old value or one of the words the instruction wrote; when every write succeeds it
is the last of them (10_state.md R20). -/
def Obligations.PortHoldsOldValueOrAWordWritten : Prop :=
  ∀ (i : Instr) (s : State), ∃ t sh, exec i s = .next t ∧
    t.trace = s.trace ++ annotate s.addr s.codeAt 0 sh ∧
    (t.port = s.port ∨ t.port ∈ shapeWords sh) ∧
    ((∀ k, k < (shapeWords sh).length → s.codeAt k = 0) → t.port = (shapeWords sh).getLastD s.port)

/-- Every step keeps the invariant: the configuration stays admissible, every transaction goes to ADDR, no word raises
both enables, each failed write and no other is reported right after it, and RESULT is 0 or 1
(10_state.md R12, R19, 20_memory.md R31, 30_encoding.md R52, 60_exceptions.md R153). -/
def Obligations.StepKeepsTheInvariant : Prop :=
  ∀ s t : State, s.Inv → step s = .next t → t.Inv

/-- Construction meets the invariant for every admissible configuration and every address; so does reset. -/
def Obligations.ConstructionMeetsTheInvariant : Prop :=
  (∀ (c : Config) (address : Nat), c.Valid → (State.construct c address).Inv) ∧ State.reset.Inv

/-- ADDR and the configuration are never written by a step (10_state.md R12). -/
def Obligations.StepKeepsAddressAndConfiguration : Prop :=
  ∀ s t : State, step s = .next t → t.addr = s.addr ∧ t.cfg = s.cfg

/-- No step writes NONE into PART: once it names a display half it always does (10_state.md R17). -/
def Obligations.StepNeverWritesNoneIntoPart : Prop :=
  ∀ s t : State, step s = .next t → t.part = s.part ∨ t.part = .top ∨ t.part = .bottom

/-- PART is inert but for `write`: from states that differ in PART only, every other instruction gives the same trace and
the same PORT (10_state.md R17). -/
def Obligations.OnlyWriteReadsPart : Prop :=
  ∀ (i : Instr) (s : State) (p : Partition), (∀ ch, i ≠ .write ch) →
    ∃ t t', exec i s = .next t ∧ exec i { s with part := p } = .next t' ∧ t'.trace = t.trace ∧ t'.port = t.port

/-- Backlight levels 1 to 255 are indistinguishable: from states that differ in a non-zero BL_LEVEL only, every
instruction gives the same trace and the same PORT (10_state.md R13). -/
def Obligations.NonzeroLevelsAreIndistinguishable : Prop :=
  ∀ (i : Instr) (s : State) (level : Byte), s.blLevel ≠ 0 → level ≠ 0 →
    ∃ t t', exec i s = .next t ∧ exec i { s with blLevel := level } = .next t' ∧
      t'.trace = t.trace ∧ t'.port = t.port

/-- No instruction reads ROWS before writing it: from states that differ in ROWS only, every instruction gives the same
trace and the same PORT (10_state.md R14). -/
def Obligations.NothingReadsOldRows : Prop :=
  ∀ (i : Instr) (s : State) (r : Byte),
    ∃ t t', exec i s = .next t ∧ exec i { s with rows := r } = .next t' ∧ t'.trace = t.trace ∧ t'.port = t.port

/-- Round trips of the flag commands: after on, off the pair's bit is 0 and after off, on it is 1, every other bit of
ENTRY and DISPCTL is as before, and each command is idempotent on the registers (42_display_commands.md R125). -/
def Obligations.FlagCommandsRoundTrip : Prop :=
  ∀ (s : State) (on off : Instr) (eOn eOff : BitVec 2) (dOn dOff : BitVec 3),
    (on, off, eOn, eOff, dOn, dOff) ∈
      ([(.display, .noDisplay, 0, 0, 0b100, 0b100), (.cursor, .noCursor, 0, 0, 0b010, 0b010),
        (.blink, .noBlink, 0, 0, 0b001, 0b001), (.leftToRight, .rightToLeft, 0b10, 0b10, 0, 0),
        (.autoscroll, .noAutoscroll, 0b01, 0b01, 0, 0)] :
        List (Instr × Instr × BitVec 2 × BitVec 2 × BitVec 3 × BitVec 3)) →
    ∃ a b ba bb aa ab, exec on s = .next a ∧ exec off s = .next b ∧
      exec off a = .next ab ∧ exec on b = .next ba ∧ exec on a = .next aa ∧ exec off b = .next bb ∧
      ab.registers = { s.registers with entry := s.entry &&& ~~~eOff, dispctl := s.dispctl &&& ~~~dOff } ∧
      ba.registers = { s.registers with entry := s.entry ||| eOn, dispctl := s.dispctl ||| dOn } ∧
      aa.registers = a.registers ∧ bb.registers = b.registers

/-- Slot operands are taken modulo 8: "slot 9 behaves identically to slot 1", and no slot raises anything
(43_backlight_glyph_write.md R141, 60_exceptions.md R155). -/
def Obligations.GlyphSlotWrapsModuloEight : Prop :=
  ∀ (s : State) (slot slot' : Byte) (b : Bitmap), slot.toNat % 8 = slot'.toNat % 8 →
    ∃ t, exec (.createChar slot b) s = .next t ∧ exec (.createChar slot' b) s = .next t ∧ t.status = .ok

/-- Construction: ADDR is the address's low seven bits, the registers are the reset parameters, BUSY, STATUS and RESULT
are 0 and the trace is empty; under the default parameters BL_LEVEL, ENTRY and DISPCTL are 0, 0b10 and 0b000
(70_reset_and_hazards.md R170). The values the spec leaves unspecified are not stated. -/
def Obligations.ConstructionValues : Prop :=
  (∀ (c : Config) (address : Nat), let s := State.construct c address
    s.addr.toNat = address &&& 0x7F ∧ s.blLevel = c.resetBl ∧ s.entry = c.resetEntry ∧ s.dispctl = c.resetDispctl ∧
    s.part = c.resetPart ∧ s.busy = false ∧ s.status = .ok ∧ s.result = 0 ∧ s.trace = [] ∧ s.cfg = c) ∧
  State.reset.blLevel = 0 ∧ State.reset.entry = 0b10 ∧ State.reset.dispctl = 0b000
end

