-- ==== Sys2Proof/Laws/Decode.lean ====
section
/-! SUPPORT. The fields of a command word and the side operand read back what was put in, and the admissible masks listed
out. -/

namespace Sys2Proof

theorem opField_commandWord (op : BitVec 5) (a b : Byte) : opField (commandWord op a b) = op := by
  ext i hi
  simp [opField, commandWord]
  interval_cases i <;> simp [BitVec.getLsbD_of_ge]

theorem aField_commandWord (op : BitVec 5) (a b : Byte) : aField (commandWord op a b) = a := by
  ext i hi
  simp [aField, commandWord]
  interval_cases i <;> simp

theorem bField_commandWord (op : BitVec 5) (a b : Byte) : bField (commandWord op a b) = b := by
  ext i hi
  simp [bField, commandWord]
  interval_cases i <;> simp

/-- The glyph of a bitmap holds the bitmap. -/
theorem bitmapOf_glyphOf (b : Bitmap) : bitmapOf (glyphOf b) = b := by
  cases b
  simp only [bitmapOf, glyphOf, Bitmap.mk.injEq]
  refine ⟨?_, ?_, ?_, ?_, ?_, ?_, ?_, ?_⟩ <;>
  · ext i hi
    simp
    interval_cases i <;> simp [BitVec.getLsbD_of_ge]

/-- A glyph is the glyph of its bitmap. -/
theorem glyphOf_bitmapOf (g : BitVec 64) : glyphOf (bitmapOf g) = g := by
  ext i hi
  simp [bitmapOf, glyphOf]
  interval_cases i <;> simp

/-- The four control lines on the four low bits, in every order: (RS, EN_TOP, EN_BOT, BL). -/
def maskChoices : List (Byte × Byte × Byte × Byte) :=
  let lines : List Byte := [0x01, 0x02, 0x04, 0x08]
  lines.flatMap fun rs => lines.flatMap fun top => lines.flatMap fun bot => lines.flatMap fun bl =>
    if rs ≠ top ∧ rs ≠ bot ∧ rs ≠ bl ∧ top ≠ bot ∧ top ≠ bl ∧ bot ≠ bl then [(rs, top, bot, bl)] else []

/-- Admissible masks are one of the twenty-four orders. -/
theorem Config.MasksOk.mem_choices {c : Config} (h : c.MasksOk) :
    (c.rsMask, c.enTopMask, c.enBotMask, c.blMask) ∈ maskChoices := by
  obtain ⟨⟨h1, h2, h3, h4⟩, ⟨n1, n2, n3, n4, n5, n6⟩, -⟩ := h
  have mem : ∀ m : Byte, oneHotLow m → m ∈ ([0x01, 0x02, 0x04, 0x08] : List Byte) := by
    rintro m (rfl | rfl | rfl | rfl) <;> decide
  simp only [maskChoices, List.mem_flatMap]
  refine ⟨_, mem _ h1, _, mem _ h2, _, mem _ h3, _, mem _ h4, ?_⟩
  rw [if_pos ⟨n1, n2, n3, n4, n5, n6⟩]
  exact List.mem_singleton.mpr rfl

end Sys2Proof
end

