-- ==== Sys2Proof/Laws/State.lean ====
section
/-! SUPPORT. One lemma per field for each named update of the state: what the update stores there, or that it leaves the
field alone. -/

namespace Sys2Proof.Machine

section BusWrite

variable (s : State) (w : Byte)

@[simp] theorem State.busWrite_cfg : (s.busWrite w).1.cfg = s.cfg := rfl
@[simp] theorem State.busWrite_addr : (s.busWrite w).1.addr = s.addr := rfl
@[simp] theorem State.busWrite_blLevel : (s.busWrite w).1.blLevel = s.blLevel := rfl
@[simp] theorem State.busWrite_rows : (s.busWrite w).1.rows = s.rows := rfl
@[simp] theorem State.busWrite_entry : (s.busWrite w).1.entry = s.entry := rfl
@[simp] theorem State.busWrite_dispctl : (s.busWrite w).1.dispctl = s.dispctl := rfl
@[simp] theorem State.busWrite_part : (s.busWrite w).1.part = s.part := rfl
@[simp] theorem State.busWrite_busy : (s.busWrite w).1.busy = s.busy := rfl
@[simp] theorem State.busWrite_status : (s.busWrite w).1.status = s.status := rfl
@[simp] theorem State.busWrite_result : (s.busWrite w).1.result = s.result := rfl
@[simp] theorem State.busWrite_cmdValid : (s.busWrite w).1.cmdValid = s.cmdValid := rfl
@[simp] theorem State.busWrite_cmdWord : (s.busWrite w).1.cmdWord = s.cmdWord := rfl
@[simp] theorem State.busWrite_cmdGlyph : (s.busWrite w).1.cmdGlyph = s.cmdGlyph := rfl
@[simp] theorem State.busWrite_request : (s.busWrite w).1.request = s.request := rfl
@[simp] theorem State.busWrite_port : (s.busWrite w).1.port = s.portAfter w s.nextCode := rfl
@[simp] theorem State.busWrite_answers : (s.busWrite w).1.answers = s.answers.tail := rfl
@[simp] theorem State.busWrite_nWrites : (s.busWrite w).1.nWrites = s.nWrites + 1 := rfl
@[simp] theorem State.busWrite_trace : (s.busWrite w).1.trace = s.trace ++ writeEvents s.addr w s.nextCode := rfl

end BusWrite

section Delay

variable (s : State) (t : Nat)

@[simp] theorem State.delay_cfg : (s.delay t).cfg = s.cfg := rfl
@[simp] theorem State.delay_addr : (s.delay t).addr = s.addr := rfl
@[simp] theorem State.delay_blLevel : (s.delay t).blLevel = s.blLevel := rfl
@[simp] theorem State.delay_rows : (s.delay t).rows = s.rows := rfl
@[simp] theorem State.delay_entry : (s.delay t).entry = s.entry := rfl
@[simp] theorem State.delay_dispctl : (s.delay t).dispctl = s.dispctl := rfl
@[simp] theorem State.delay_part : (s.delay t).part = s.part := rfl
@[simp] theorem State.delay_busy : (s.delay t).busy = s.busy := rfl
@[simp] theorem State.delay_status : (s.delay t).status = s.status := rfl
@[simp] theorem State.delay_result : (s.delay t).result = s.result := rfl
@[simp] theorem State.delay_cmdValid : (s.delay t).cmdValid = s.cmdValid := rfl
@[simp] theorem State.delay_cmdWord : (s.delay t).cmdWord = s.cmdWord := rfl
@[simp] theorem State.delay_cmdGlyph : (s.delay t).cmdGlyph = s.cmdGlyph := rfl
@[simp] theorem State.delay_request : (s.delay t).request = s.request := rfl
@[simp] theorem State.delay_port : (s.delay t).port = s.port := rfl
@[simp] theorem State.delay_answers : (s.delay t).answers = s.answers := rfl
@[simp] theorem State.delay_nWrites : (s.delay t).nWrites = s.nWrites := rfl
@[simp] theorem State.delay_trace : (s.delay t).trace = s.trace ++ [.delay t] := rfl

end Delay

section BusBegin

variable (s : State)

@[simp] theorem State.busBegin_cfg : s.busBegin.cfg = s.cfg := rfl
@[simp] theorem State.busBegin_addr : s.busBegin.addr = s.addr := rfl
@[simp] theorem State.busBegin_blLevel : s.busBegin.blLevel = s.blLevel := rfl
@[simp] theorem State.busBegin_rows : s.busBegin.rows = s.rows := rfl
@[simp] theorem State.busBegin_entry : s.busBegin.entry = s.entry := rfl
@[simp] theorem State.busBegin_dispctl : s.busBegin.dispctl = s.dispctl := rfl
@[simp] theorem State.busBegin_part : s.busBegin.part = s.part := rfl
@[simp] theorem State.busBegin_busy : s.busBegin.busy = s.busy := rfl
@[simp] theorem State.busBegin_status : s.busBegin.status = s.status := rfl
@[simp] theorem State.busBegin_result : s.busBegin.result = s.result := rfl
@[simp] theorem State.busBegin_cmdValid : s.busBegin.cmdValid = s.cmdValid := rfl
@[simp] theorem State.busBegin_cmdWord : s.busBegin.cmdWord = s.cmdWord := rfl
@[simp] theorem State.busBegin_cmdGlyph : s.busBegin.cmdGlyph = s.cmdGlyph := rfl
@[simp] theorem State.busBegin_request : s.busBegin.request = s.request := rfl
@[simp] theorem State.busBegin_port : s.busBegin.port = s.port := rfl
@[simp] theorem State.busBegin_answers : s.busBegin.answers = s.answers := rfl
@[simp] theorem State.busBegin_nWrites : s.busBegin.nWrites = s.nWrites := rfl
@[simp] theorem State.busBegin_trace : s.busBegin.trace = s.trace ++ [.busBegin] := rfl

end BusBegin

section Complete

variable (s : State) (op : Op) (r : Byte)

@[simp] theorem State.complete_cfg : (s.complete op r).cfg = s.cfg := rfl
@[simp] theorem State.complete_addr : (s.complete op r).addr = s.addr := rfl
@[simp] theorem State.complete_blLevel : (s.complete op r).blLevel = s.blLevel := rfl
@[simp] theorem State.complete_rows : (s.complete op r).rows = s.rows := rfl
@[simp] theorem State.complete_entry : (s.complete op r).entry = s.entry := rfl
@[simp] theorem State.complete_dispctl : (s.complete op r).dispctl = s.dispctl := rfl
@[simp] theorem State.complete_part : (s.complete op r).part = s.part := rfl
@[simp] theorem State.complete_busy : (s.complete op r).busy = false := rfl
@[simp] theorem State.complete_status : (s.complete op r).status = .ok := rfl
@[simp] theorem State.complete_result : (s.complete op r).result = r := rfl
@[simp] theorem State.complete_cmdValid : (s.complete op r).cmdValid = s.cmdValid := rfl
@[simp] theorem State.complete_cmdWord : (s.complete op r).cmdWord = s.cmdWord := rfl
@[simp] theorem State.complete_cmdGlyph : (s.complete op r).cmdGlyph = s.cmdGlyph := rfl
@[simp] theorem State.complete_request : (s.complete op r).request = s.request := rfl
@[simp] theorem State.complete_port : (s.complete op r).port = s.port := rfl
@[simp] theorem State.complete_answers : (s.complete op r).answers = s.answers := rfl
@[simp] theorem State.complete_nWrites : (s.complete op r).nWrites = s.nWrites := rfl
@[simp] theorem State.complete_trace : (s.complete op r).trace = s.trace ++ [.done op .ok r] := rfl

end Complete

section RaiseInvalidArgument

variable (s : State) (op : Op)

@[simp] theorem State.raiseInvalidArgument_cfg : (s.raiseInvalidArgument op).cfg = s.cfg := rfl
@[simp] theorem State.raiseInvalidArgument_addr : (s.raiseInvalidArgument op).addr = s.addr := rfl
@[simp] theorem State.raiseInvalidArgument_blLevel : (s.raiseInvalidArgument op).blLevel = s.blLevel := rfl
@[simp] theorem State.raiseInvalidArgument_rows : (s.raiseInvalidArgument op).rows = s.rows := rfl
@[simp] theorem State.raiseInvalidArgument_entry : (s.raiseInvalidArgument op).entry = s.entry := rfl
@[simp] theorem State.raiseInvalidArgument_dispctl : (s.raiseInvalidArgument op).dispctl = s.dispctl := rfl
@[simp] theorem State.raiseInvalidArgument_part : (s.raiseInvalidArgument op).part = s.part := rfl
@[simp] theorem State.raiseInvalidArgument_busy : (s.raiseInvalidArgument op).busy = false := rfl
@[simp] theorem State.raiseInvalidArgument_status : (s.raiseInvalidArgument op).status = .invalidArgument := rfl
@[simp] theorem State.raiseInvalidArgument_result : (s.raiseInvalidArgument op).result = 0 := rfl
@[simp] theorem State.raiseInvalidArgument_cmdValid : (s.raiseInvalidArgument op).cmdValid = s.cmdValid := rfl
@[simp] theorem State.raiseInvalidArgument_cmdWord : (s.raiseInvalidArgument op).cmdWord = s.cmdWord := rfl
@[simp] theorem State.raiseInvalidArgument_cmdGlyph : (s.raiseInvalidArgument op).cmdGlyph = s.cmdGlyph := rfl
@[simp] theorem State.raiseInvalidArgument_request : (s.raiseInvalidArgument op).request = s.request := rfl
@[simp] theorem State.raiseInvalidArgument_port : (s.raiseInvalidArgument op).port = s.port := rfl
@[simp] theorem State.raiseInvalidArgument_answers : (s.raiseInvalidArgument op).answers = s.answers := rfl
@[simp] theorem State.raiseInvalidArgument_nWrites : (s.raiseInvalidArgument op).nWrites = s.nWrites := rfl
@[simp] theorem State.raiseInvalidArgument_trace : (s.raiseInvalidArgument op).trace = s.trace ++ [.done op .invalidArgument 0] := rfl

end RaiseInvalidArgument

section Accept

variable (s : State)

@[simp] theorem State.accept_cfg : s.accept.cfg = s.cfg := rfl
@[simp] theorem State.accept_addr : s.accept.addr = s.addr := rfl
@[simp] theorem State.accept_blLevel : s.accept.blLevel = s.blLevel := rfl
@[simp] theorem State.accept_rows : s.accept.rows = s.rows := rfl
@[simp] theorem State.accept_entry : s.accept.entry = s.entry := rfl
@[simp] theorem State.accept_dispctl : s.accept.dispctl = s.dispctl := rfl
@[simp] theorem State.accept_part : s.accept.part = s.part := rfl
@[simp] theorem State.accept_busy : s.accept.busy = true := rfl
@[simp] theorem State.accept_status : s.accept.status = s.status := rfl
@[simp] theorem State.accept_result : s.accept.result = s.result := rfl
@[simp] theorem State.accept_cmdValid : s.accept.cmdValid = false := rfl
@[simp] theorem State.accept_cmdWord : s.accept.cmdWord = s.cmdWord := rfl
@[simp] theorem State.accept_cmdGlyph : s.accept.cmdGlyph = s.cmdGlyph := rfl
@[simp] theorem State.accept_request : s.accept.request = s.request := rfl
@[simp] theorem State.accept_port : s.accept.port = s.port := rfl
@[simp] theorem State.accept_answers : s.accept.answers = s.answers := rfl
@[simp] theorem State.accept_nWrites : s.accept.nWrites = s.nWrites := rfl
@[simp] theorem State.accept_trace : s.accept.trace = s.trace := rfl

end Accept

section Present

variable (s : State) (word : BitVec 21) (glyph : BitVec 64)

@[simp] theorem State.present_cfg : (s.present word glyph).cfg = s.cfg := rfl
@[simp] theorem State.present_addr : (s.present word glyph).addr = s.addr := rfl
@[simp] theorem State.present_blLevel : (s.present word glyph).blLevel = s.blLevel := rfl
@[simp] theorem State.present_rows : (s.present word glyph).rows = s.rows := rfl
@[simp] theorem State.present_entry : (s.present word glyph).entry = s.entry := rfl
@[simp] theorem State.present_dispctl : (s.present word glyph).dispctl = s.dispctl := rfl
@[simp] theorem State.present_part : (s.present word glyph).part = s.part := rfl
@[simp] theorem State.present_busy : (s.present word glyph).busy = s.busy := rfl
@[simp] theorem State.present_status : (s.present word glyph).status = s.status := rfl
@[simp] theorem State.present_result : (s.present word glyph).result = s.result := rfl
@[simp] theorem State.present_cmdValid : (s.present word glyph).cmdValid = true := rfl
@[simp] theorem State.present_cmdWord : (s.present word glyph).cmdWord = word := rfl
@[simp] theorem State.present_cmdGlyph : (s.present word glyph).cmdGlyph = glyph := rfl
@[simp] theorem State.present_request : (s.present word glyph).request = s.request := rfl
@[simp] theorem State.present_port : (s.present word glyph).port = s.port := rfl
@[simp] theorem State.present_answers : (s.present word glyph).answers = s.answers := rfl
@[simp] theorem State.present_nWrites : (s.present word glyph).nWrites = s.nWrites := rfl
@[simp] theorem State.present_trace : (s.present word glyph).trace = s.trace := rfl

end Present

section TakeRequest

variable (s : State)

@[simp] theorem State.takeRequest_cfg : s.takeRequest.cfg = s.cfg := rfl
@[simp] theorem State.takeRequest_addr : s.takeRequest.addr = s.addr := rfl
@[simp] theorem State.takeRequest_blLevel : s.takeRequest.blLevel = s.blLevel := rfl
@[simp] theorem State.takeRequest_rows : s.takeRequest.rows = s.rows := rfl
@[simp] theorem State.takeRequest_entry : s.takeRequest.entry = s.entry := rfl
@[simp] theorem State.takeRequest_dispctl : s.takeRequest.dispctl = s.dispctl := rfl
@[simp] theorem State.takeRequest_part : s.takeRequest.part = s.part := rfl
@[simp] theorem State.takeRequest_busy : s.takeRequest.busy = s.busy := rfl
@[simp] theorem State.takeRequest_status : s.takeRequest.status = s.status := rfl
@[simp] theorem State.takeRequest_result : s.takeRequest.result = s.result := rfl
@[simp] theorem State.takeRequest_cmdValid : s.takeRequest.cmdValid = s.cmdValid := rfl
@[simp] theorem State.takeRequest_cmdWord : s.takeRequest.cmdWord = s.cmdWord := rfl
@[simp] theorem State.takeRequest_cmdGlyph : s.takeRequest.cmdGlyph = s.cmdGlyph := rfl
@[simp] theorem State.takeRequest_request : s.takeRequest.request = none := rfl
@[simp] theorem State.takeRequest_port : s.takeRequest.port = s.port := rfl
@[simp] theorem State.takeRequest_answers : s.takeRequest.answers = s.answers := rfl
@[simp] theorem State.takeRequest_nWrites : s.takeRequest.nWrites = s.nWrites := rfl
@[simp] theorem State.takeRequest_trace : s.takeRequest.trace = s.trace := rfl

end TakeRequest

section Emit

variable (s : State) (sh : List Shape)

@[simp] theorem State.emit_cfg : (s.emit sh).cfg = s.cfg := rfl
@[simp] theorem State.emit_addr : (s.emit sh).addr = s.addr := rfl
@[simp] theorem State.emit_blLevel : (s.emit sh).blLevel = s.blLevel := rfl
@[simp] theorem State.emit_rows : (s.emit sh).rows = s.rows := rfl
@[simp] theorem State.emit_entry : (s.emit sh).entry = s.entry := rfl
@[simp] theorem State.emit_dispctl : (s.emit sh).dispctl = s.dispctl := rfl
@[simp] theorem State.emit_part : (s.emit sh).part = s.part := rfl
@[simp] theorem State.emit_busy : (s.emit sh).busy = s.busy := rfl
@[simp] theorem State.emit_status : (s.emit sh).status = s.status := rfl
@[simp] theorem State.emit_result : (s.emit sh).result = s.result := rfl
@[simp] theorem State.emit_cmdValid : (s.emit sh).cmdValid = s.cmdValid := rfl
@[simp] theorem State.emit_cmdWord : (s.emit sh).cmdWord = s.cmdWord := rfl
@[simp] theorem State.emit_cmdGlyph : (s.emit sh).cmdGlyph = s.cmdGlyph := rfl
@[simp] theorem State.emit_request : (s.emit sh).request = s.request := rfl
@[simp] theorem State.emit_port : (s.emit sh).port = portRun s.codeAt s.latchAt 0 s.port (shapeWords sh) := rfl
@[simp] theorem State.emit_answers : (s.emit sh).answers = s.answers.drop (shapeWords sh).length := rfl
@[simp] theorem State.emit_nWrites : (s.emit sh).nWrites = s.nWrites + (shapeWords sh).length := rfl
@[simp] theorem State.emit_trace : (s.emit sh).trace = s.trace ++ annotate s.addr s.codeAt 0 sh := rfl

end Emit

section AfterCommand

variable (s : State) (sh : List Shape) (op : Op) (st : Status) (r : Byte)

@[simp] theorem State.afterCommand_cfg : (s.afterCommand sh op st r).cfg = s.cfg := rfl
@[simp] theorem State.afterCommand_addr : (s.afterCommand sh op st r).addr = s.addr := rfl
@[simp] theorem State.afterCommand_blLevel : (s.afterCommand sh op st r).blLevel = s.blLevel := rfl
@[simp] theorem State.afterCommand_rows : (s.afterCommand sh op st r).rows = s.rows := rfl
@[simp] theorem State.afterCommand_entry : (s.afterCommand sh op st r).entry = s.entry := rfl
@[simp] theorem State.afterCommand_dispctl : (s.afterCommand sh op st r).dispctl = s.dispctl := rfl
@[simp] theorem State.afterCommand_part : (s.afterCommand sh op st r).part = s.part := rfl
@[simp] theorem State.afterCommand_busy : (s.afterCommand sh op st r).busy = false := rfl
@[simp] theorem State.afterCommand_status : (s.afterCommand sh op st r).status = st := rfl
@[simp] theorem State.afterCommand_result : (s.afterCommand sh op st r).result = r := rfl
@[simp] theorem State.afterCommand_cmdValid : (s.afterCommand sh op st r).cmdValid = s.cmdValid := rfl
@[simp] theorem State.afterCommand_cmdWord : (s.afterCommand sh op st r).cmdWord = s.cmdWord := rfl
@[simp] theorem State.afterCommand_cmdGlyph : (s.afterCommand sh op st r).cmdGlyph = s.cmdGlyph := rfl
@[simp] theorem State.afterCommand_request : (s.afterCommand sh op st r).request = s.request := rfl
@[simp] theorem State.afterCommand_port :
    (s.afterCommand sh op st r).port = portRun s.codeAt s.latchAt 0 s.port (shapeWords (sh ++ [.done op st r])) := rfl
@[simp] theorem State.afterCommand_answers :
    (s.afterCommand sh op st r).answers = s.answers.drop (shapeWords (sh ++ [.done op st r])).length := rfl
@[simp] theorem State.afterCommand_nWrites :
    (s.afterCommand sh op st r).nWrites = s.nWrites + (shapeWords (sh ++ [.done op st r])).length := rfl
@[simp] theorem State.afterCommand_trace :
    (s.afterCommand sh op st r).trace = s.trace ++ annotate s.addr s.codeAt 0 (sh ++ [.done op st r]) := rfl

end AfterCommand

section SetBlLevel

variable (s : State) (v : Byte) (sh : List Shape)

@[simp] theorem State.setBlLevel_cfg : (s.setBlLevel v).cfg = s.cfg := rfl
@[simp] theorem State.setBlLevel_addr : (s.setBlLevel v).addr = s.addr := rfl
@[simp] theorem State.setBlLevel_blLevel : (s.setBlLevel v).blLevel = v := rfl
@[simp] theorem State.setBlLevel_rows : (s.setBlLevel v).rows = s.rows := rfl
@[simp] theorem State.setBlLevel_entry : (s.setBlLevel v).entry = s.entry := rfl
@[simp] theorem State.setBlLevel_dispctl : (s.setBlLevel v).dispctl = s.dispctl := rfl
@[simp] theorem State.setBlLevel_part : (s.setBlLevel v).part = s.part := rfl
@[simp] theorem State.setBlLevel_busy : (s.setBlLevel v).busy = s.busy := rfl
@[simp] theorem State.setBlLevel_status : (s.setBlLevel v).status = s.status := rfl
@[simp] theorem State.setBlLevel_result : (s.setBlLevel v).result = s.result := rfl
@[simp] theorem State.setBlLevel_cmdValid : (s.setBlLevel v).cmdValid = s.cmdValid := rfl
@[simp] theorem State.setBlLevel_cmdWord : (s.setBlLevel v).cmdWord = s.cmdWord := rfl
@[simp] theorem State.setBlLevel_cmdGlyph : (s.setBlLevel v).cmdGlyph = s.cmdGlyph := rfl
@[simp] theorem State.setBlLevel_request : (s.setBlLevel v).request = s.request := rfl
@[simp] theorem State.setBlLevel_port : (s.setBlLevel v).port = s.port := rfl
@[simp] theorem State.setBlLevel_answers : (s.setBlLevel v).answers = s.answers := rfl
@[simp] theorem State.setBlLevel_nWrites : (s.setBlLevel v).nWrites = s.nWrites := rfl
@[simp] theorem State.setBlLevel_trace : (s.setBlLevel v).trace = s.trace := rfl
/-- A register write and a bus sequence do not meet. -/
@[simp] theorem State.emit_setBlLevel : (s.setBlLevel v).emit sh = (s.emit sh).setBlLevel v := rfl

end SetBlLevel

section SetRows

variable (s : State) (v : Byte) (sh : List Shape)

@[simp] theorem State.setRows_cfg : (s.setRows v).cfg = s.cfg := rfl
@[simp] theorem State.setRows_addr : (s.setRows v).addr = s.addr := rfl
@[simp] theorem State.setRows_blLevel : (s.setRows v).blLevel = s.blLevel := rfl
@[simp] theorem State.setRows_rows : (s.setRows v).rows = v := rfl
@[simp] theorem State.setRows_entry : (s.setRows v).entry = s.entry := rfl
@[simp] theorem State.setRows_dispctl : (s.setRows v).dispctl = s.dispctl := rfl
@[simp] theorem State.setRows_part : (s.setRows v).part = s.part := rfl
@[simp] theorem State.setRows_busy : (s.setRows v).busy = s.busy := rfl
@[simp] theorem State.setRows_status : (s.setRows v).status = s.status := rfl
@[simp] theorem State.setRows_result : (s.setRows v).result = s.result := rfl
@[simp] theorem State.setRows_cmdValid : (s.setRows v).cmdValid = s.cmdValid := rfl
@[simp] theorem State.setRows_cmdWord : (s.setRows v).cmdWord = s.cmdWord := rfl
@[simp] theorem State.setRows_cmdGlyph : (s.setRows v).cmdGlyph = s.cmdGlyph := rfl
@[simp] theorem State.setRows_request : (s.setRows v).request = s.request := rfl
@[simp] theorem State.setRows_port : (s.setRows v).port = s.port := rfl
@[simp] theorem State.setRows_answers : (s.setRows v).answers = s.answers := rfl
@[simp] theorem State.setRows_nWrites : (s.setRows v).nWrites = s.nWrites := rfl
@[simp] theorem State.setRows_trace : (s.setRows v).trace = s.trace := rfl
/-- A register write and a bus sequence do not meet. -/
@[simp] theorem State.emit_setRows : (s.setRows v).emit sh = (s.emit sh).setRows v := rfl

end SetRows

section SetEntry

variable (s : State) (v : BitVec 2) (sh : List Shape)

@[simp] theorem State.setEntry_cfg : (s.setEntry v).cfg = s.cfg := rfl
@[simp] theorem State.setEntry_addr : (s.setEntry v).addr = s.addr := rfl
@[simp] theorem State.setEntry_blLevel : (s.setEntry v).blLevel = s.blLevel := rfl
@[simp] theorem State.setEntry_rows : (s.setEntry v).rows = s.rows := rfl
@[simp] theorem State.setEntry_entry : (s.setEntry v).entry = v := rfl
@[simp] theorem State.setEntry_dispctl : (s.setEntry v).dispctl = s.dispctl := rfl
@[simp] theorem State.setEntry_part : (s.setEntry v).part = s.part := rfl
@[simp] theorem State.setEntry_busy : (s.setEntry v).busy = s.busy := rfl
@[simp] theorem State.setEntry_status : (s.setEntry v).status = s.status := rfl
@[simp] theorem State.setEntry_result : (s.setEntry v).result = s.result := rfl
@[simp] theorem State.setEntry_cmdValid : (s.setEntry v).cmdValid = s.cmdValid := rfl
@[simp] theorem State.setEntry_cmdWord : (s.setEntry v).cmdWord = s.cmdWord := rfl
@[simp] theorem State.setEntry_cmdGlyph : (s.setEntry v).cmdGlyph = s.cmdGlyph := rfl
@[simp] theorem State.setEntry_request : (s.setEntry v).request = s.request := rfl
@[simp] theorem State.setEntry_port : (s.setEntry v).port = s.port := rfl
@[simp] theorem State.setEntry_answers : (s.setEntry v).answers = s.answers := rfl
@[simp] theorem State.setEntry_nWrites : (s.setEntry v).nWrites = s.nWrites := rfl
@[simp] theorem State.setEntry_trace : (s.setEntry v).trace = s.trace := rfl
/-- A register write and a bus sequence do not meet. -/
@[simp] theorem State.emit_setEntry : (s.setEntry v).emit sh = (s.emit sh).setEntry v := rfl

end SetEntry

section SetDispctl

variable (s : State) (v : BitVec 3) (sh : List Shape)

@[simp] theorem State.setDispctl_cfg : (s.setDispctl v).cfg = s.cfg := rfl
@[simp] theorem State.setDispctl_addr : (s.setDispctl v).addr = s.addr := rfl
@[simp] theorem State.setDispctl_blLevel : (s.setDispctl v).blLevel = s.blLevel := rfl
@[simp] theorem State.setDispctl_rows : (s.setDispctl v).rows = s.rows := rfl
@[simp] theorem State.setDispctl_entry : (s.setDispctl v).entry = s.entry := rfl
@[simp] theorem State.setDispctl_dispctl : (s.setDispctl v).dispctl = v := rfl
@[simp] theorem State.setDispctl_part : (s.setDispctl v).part = s.part := rfl
@[simp] theorem State.setDispctl_busy : (s.setDispctl v).busy = s.busy := rfl
@[simp] theorem State.setDispctl_status : (s.setDispctl v).status = s.status := rfl
@[simp] theorem State.setDispctl_result : (s.setDispctl v).result = s.result := rfl
@[simp] theorem State.setDispctl_cmdValid : (s.setDispctl v).cmdValid = s.cmdValid := rfl
@[simp] theorem State.setDispctl_cmdWord : (s.setDispctl v).cmdWord = s.cmdWord := rfl
@[simp] theorem State.setDispctl_cmdGlyph : (s.setDispctl v).cmdGlyph = s.cmdGlyph := rfl
@[simp] theorem State.setDispctl_request : (s.setDispctl v).request = s.request := rfl
@[simp] theorem State.setDispctl_port : (s.setDispctl v).port = s.port := rfl
@[simp] theorem State.setDispctl_answers : (s.setDispctl v).answers = s.answers := rfl
@[simp] theorem State.setDispctl_nWrites : (s.setDispctl v).nWrites = s.nWrites := rfl
@[simp] theorem State.setDispctl_trace : (s.setDispctl v).trace = s.trace := rfl
/-- A register write and a bus sequence do not meet. -/
@[simp] theorem State.emit_setDispctl : (s.setDispctl v).emit sh = (s.emit sh).setDispctl v := rfl

end SetDispctl

section SetPart

variable (s : State) (v : Partition) (sh : List Shape)

@[simp] theorem State.setPart_cfg : (s.setPart v).cfg = s.cfg := rfl
@[simp] theorem State.setPart_addr : (s.setPart v).addr = s.addr := rfl
@[simp] theorem State.setPart_blLevel : (s.setPart v).blLevel = s.blLevel := rfl
@[simp] theorem State.setPart_rows : (s.setPart v).rows = s.rows := rfl
@[simp] theorem State.setPart_entry : (s.setPart v).entry = s.entry := rfl
@[simp] theorem State.setPart_dispctl : (s.setPart v).dispctl = s.dispctl := rfl
@[simp] theorem State.setPart_part : (s.setPart v).part = v := rfl
@[simp] theorem State.setPart_busy : (s.setPart v).busy = s.busy := rfl
@[simp] theorem State.setPart_status : (s.setPart v).status = s.status := rfl
@[simp] theorem State.setPart_result : (s.setPart v).result = s.result := rfl
@[simp] theorem State.setPart_cmdValid : (s.setPart v).cmdValid = s.cmdValid := rfl
@[simp] theorem State.setPart_cmdWord : (s.setPart v).cmdWord = s.cmdWord := rfl
@[simp] theorem State.setPart_cmdGlyph : (s.setPart v).cmdGlyph = s.cmdGlyph := rfl
@[simp] theorem State.setPart_request : (s.setPart v).request = s.request := rfl
@[simp] theorem State.setPart_port : (s.setPart v).port = s.port := rfl
@[simp] theorem State.setPart_answers : (s.setPart v).answers = s.answers := rfl
@[simp] theorem State.setPart_nWrites : (s.setPart v).nWrites = s.nWrites := rfl
@[simp] theorem State.setPart_trace : (s.setPart v).trace = s.trace := rfl
/-- A register write and a bus sequence do not meet. -/
@[simp] theorem State.emit_setPart : (s.setPart v).emit sh = (s.emit sh).setPart v := rfl

end SetPart

section Registers

variable (s : State)

@[simp] theorem State.registers_addr : s.registers.addr = s.addr := rfl
@[simp] theorem State.registers_blLevel : s.registers.blLevel = s.blLevel := rfl
@[simp] theorem State.registers_rows : s.registers.rows = s.rows := rfl
@[simp] theorem State.registers_entry : s.registers.entry = s.entry := rfl
@[simp] theorem State.registers_dispctl : s.registers.dispctl = s.dispctl := rfl
@[simp] theorem State.registers_part : s.registers.part = s.part := rfl
@[simp] theorem State.emit_registers (sh : List Shape) : (s.emit sh).registers = s.registers := rfl
@[simp] theorem State.accept_registers : s.accept.registers = s.registers := rfl

end Registers

end Sys2Proof.Machine
end

