-- ==== Sys2Proof/Laws/Ops.lean ====
section
/-! SUPPORT. One lemma for each shared operation, saying all it does: it is the emission of a code-free sequence
(`State.emit`), and sequences compose by append. -/

namespace Sys2Proof.Machine

/-! ## Sequences compose -/

@[simp] theorem shapeWords_append (a b : List Shape) : shapeWords (a ++ b) = shapeWords a ++ shapeWords b := by
  induction a with
  | nil => rfl
  | cons x a ih => cases x <;> simp [shapeWords, ih]

theorem annotate_append (address : BitVec 7) (code : Nat → Byte) (a b : List Shape) (k : Nat) :
    annotate address code k (a ++ b) =
      annotate address code k a ++ annotate address code (k + (shapeWords a).length) b := by
  induction a generalizing k with
  | nil => rfl
  | cons x a ih =>
    cases x <;> simp [annotate, shapeWords, ih, Nat.add_assoc, Nat.add_comm]

/-- Counting the codes from further on is the same as shifting them. -/
theorem annotate_shift (address : BitVec 7) (code : Nat → Byte) (n : Nat) (sh : List Shape) (k : Nat) :
    annotate address (fun j => code (n + j)) k sh = annotate address code (n + k) sh := by
  induction sh generalizing k with
  | nil => rfl
  | cons x sh ih => cases x <;> simp [annotate, ih, Nat.add_assoc]

theorem portRun_append (code : Nat → Byte) (latch : Nat → Bool) (a b : List Byte) (k : Nat) (port : Byte) :
    portRun code latch k port (a ++ b) = portRun code latch (k + a.length) (portRun code latch k port a) b := by
  induction a generalizing k port with
  | nil => rfl
  | cons w a ih => simp [portRun, ih, Nat.add_assoc, Nat.add_comm]

theorem portRun_shift (code : Nat → Byte) (latch : Nat → Bool) (n : Nat) (ws : List Byte) (k : Nat) (port : Byte) :
    portRun (fun j => code (n + j)) (fun j => latch (n + j)) k port ws = portRun code latch (n + k) port ws := by
  induction ws generalizing k port with
  | nil => rfl
  | cons w ws ih => simp [portRun, ih, Nat.add_assoc]

@[simp] theorem State.codeAt_emit (s : State) (sh : List Shape) (k : Nat) :
    (s.emit sh).codeAt k = s.codeAt ((shapeWords sh).length + k) := by
  simp [State.codeAt, Nat.add_assoc]

@[simp] theorem State.latchAt_emit (s : State) (sh : List Shape) (k : Nat) :
    (s.emit sh).latchAt k = s.latchAt ((shapeWords sh).length + k) := by
  simp [State.latchAt, Nat.add_assoc]

/-- Two sequences, one after the other, are their concatenation. -/
@[simp] theorem State.emit_emit (s : State) (a b : List Shape) : (s.emit a).emit b = s.emit (a ++ b) := by
  have hcode : (s.emit a).codeAt = fun j => s.codeAt ((shapeWords a).length + j) := by funext j; simp
  have hlatch : (s.emit a).latchAt = fun j => s.latchAt ((shapeWords a).length + j) := by funext j; simp
  rw [State.emit.eq_1 (s.emit a) b, hcode, hlatch]
  simp [State.emit, annotate_shift, annotate_append, portRun_shift, portRun_append, Nat.add_assoc]

@[simp] theorem State.emit_nil (s : State) : s.emit [] = s := by
  simp [State.emit, shapeWords, annotate, portRun]

/-! ## The micro-operations -/

theorem State.nextCode_eq (s : State) : s.nextCode = s.codeAt 0 := by
  cases h : s.answers <;> simp [State.nextCode, State.codeAt, h]

theorem State.busWrite_eq_emit (s : State) (w : Byte) : (s.busWrite w).1 = s.emit [.word w] := by
  simp only [State.busWrite, State.emit, shapeWords, annotate, portRun, State.portAfter, State.latchAt, writeEvents,
    reportEvents, State.nextCode_eq, List.drop_one, List.length_singleton, Nat.add_zero, List.append_nil]
  rfl

theorem State.busWrite_code (s : State) (w : Byte) : (s.busWrite w).2 = s.codeAt 0 := s.nextCode_eq

theorem State.delay_eq_emit (s : State) (t : Nat) : s.delay t = s.emit [.wait t] := rfl

theorem State.busBegin_eq_emit (s : State) : s.busBegin = s.emit [.busBegin] := rfl

theorem State.sendNibble_eq_emit (s : State) (n : Nibble) (isData : Bool) (p : Partition) :
    (s.sendNibble n isData p).1 = s.emit (strobeShape s.cfg s.backlight n isData p) := by
  simp only [State.sendNibble, State.busWrite_eq_emit, State.delay_eq_emit, State.emit_emit, State.packWord,
    releaseWord]
  rfl

theorem State.sendNibble_status (s : State) (n : Nibble) (isData : Bool) (p : Partition) :
    (s.sendNibble n isData p).2 = if s.codeAt 0 ≠ 0 then s.codeAt 0 else s.codeAt 1 := by
  simp only [State.sendNibble, State.busWrite_code, State.busWrite_eq_emit, State.delay_eq_emit, State.emit_emit,
    State.codeAt_emit]
  rfl

@[simp] theorem State.emit_backlight (s : State) (sh : List Shape) : (s.emit sh).backlight = s.backlight := rfl

@[simp] theorem State.setRows_backlight (s : State) (v : Byte) : (s.setRows v).backlight = s.backlight := rfl
@[simp] theorem State.setEntry_backlight (s : State) (v : BitVec 2) : (s.setEntry v).backlight = s.backlight := rfl
@[simp] theorem State.setDispctl_backlight (s : State) (v : BitVec 3) : (s.setDispctl v).backlight = s.backlight := rfl
@[simp] theorem State.setPart_backlight (s : State) (v : Partition) : (s.setPart v).backlight = s.backlight := rfl
@[simp] theorem State.setBlLevel_backlight (s : State) (v : Byte) : (s.setBlLevel v).backlight = (v != 0) := rfl

theorem State.send_eq_emit (s : State) (v : Byte) (isData : Bool) (p : Partition) :
    s.send v isData p = s.emit (byteShape s.cfg s.backlight v isData p) := by
  simp [State.send, State.sendNibble_eq_emit, byteShape, hiNibble, loNibble]

theorem State.broadcastNibble_eq_emit (s : State) (n : Nibble) :
    s.broadcastNibble n = s.emit (nibbleToBoth s.cfg s.backlight n) := by
  simp [State.broadcastNibble, State.sendNibble_eq_emit, nibbleToBoth]

theorem State.broadcast_eq_emit (s : State) (v : Byte) :
    s.broadcast v = s.emit (byteToBoth s.cfg s.backlight v) := by
  simp [State.broadcast, State.send_eq_emit, byteToBoth]

theorem State.sendRows_eq_emit (s : State) (p : Partition) (vs : List Byte) :
    s.sendRows p vs = s.emit (dataShape s.cfg s.backlight p vs) := by
  unfold State.sendRows
  induction vs generalizing s with
  | nil => rw [List.foldl_nil, dataShape, State.emit_nil]
  | cons v vs ih => rw [List.foldl_cons, ih, State.send_eq_emit]; simp [dataShape]

/-! ## The end of a command -/

theorem State.complete_emit (s : State) (sh : List Shape) (op : Op) (r : Byte) :
    (s.emit sh).complete op r = s.afterCommand sh op .ok r := by
  rw [State.afterCommand, ← State.emit_emit]
  generalize s.emit sh = u
  rfl

@[simp] theorem State.complete_setBlLevel (s : State) (v : Byte) (op : Op) (r : Byte) :
    (s.setBlLevel v).complete op r = (s.complete op r).setBlLevel v := rfl
@[simp] theorem State.complete_setRows (s : State) (v : Byte) (op : Op) (r : Byte) :
    (s.setRows v).complete op r = (s.complete op r).setRows v := rfl
@[simp] theorem State.complete_setEntry (s : State) (v : BitVec 2) (op : Op) (r : Byte) :
    (s.setEntry v).complete op r = (s.complete op r).setEntry v := rfl
@[simp] theorem State.complete_setDispctl (s : State) (v : BitVec 3) (op : Op) (r : Byte) :
    (s.setDispctl v).complete op r = (s.complete op r).setDispctl v := rfl
@[simp] theorem State.complete_setPart (s : State) (v : Partition) (op : Op) (r : Byte) :
    (s.setPart v).complete op r = (s.complete op r).setPart v := rfl

theorem State.raiseInvalidArgument_eq (s : State) (op : Op) :
    s.raiseInvalidArgument op = s.afterCommand [] op .invalidArgument 0 := rfl

end Sys2Proof.Machine
end

