-- ==== Sys2Proof/Laws/PerInstr.lean ====
section
/-! SUPPORT. The family `TableRow`: the encoding of each instruction, under the default parameters, lies in its row of
spec/opcode_table.json, whose match and mask are copied here. -/

namespace Sys2Proof.Laws.TableRow

open Sys2Proof

/-- A row of the opcode table: its format, with match and mask where the table gives them. -/
inductive Row where
  /-- format CMD, mask 0x1F0000 -/
  | command (pattern : BitVec 21)
  /-- format INSTR_BYTE -/
  | instrByte (pattern mask : Byte)
  /-- format INSTR_NIBBLE, mask 0xF -/
  | instrNibble (pattern : Nibble)
  /-- format DATA_BYTE -/
  | dataByte
  /-- format PORT_WORD -/
  | portWord
  deriving DecidableEq, Repr

/-- The row of each instruction. -/
def row : Instr → Row
  | .begin _ _ => .command 0x000000
  | .init => .command 0x010000
  | .clear => .command 0x020000
  | .home => .command 0x030000
  | .setCursor _ _ => .command 0x040000
  | .cursor => .command 0x050000
  | .noCursor => .command 0x060000
  | .blink => .command 0x070000
  | .noBlink => .command 0x080000
  | .display => .command 0x090000
  | .noDisplay => .command 0x0A0000
  | .scrollDisplayLeft => .command 0x0B0000
  | .scrollDisplayRight => .command 0x0C0000
  | .leftToRight => .command 0x0D0000
  | .rightToLeft => .command 0x0E0000
  | .autoscroll => .command 0x0F0000
  | .noAutoscroll => .command 0x100000
  | .setBacklight _ => .command 0x110000
  | .createChar _ _ => .command 0x120000
  | .write _ => .command 0x130000
  | .clearByte => .instrByte 0x01 0xFF
  | .homeByte => .instrByte 0x02 0xFF
  | .entryModeSet _ => .instrByte 0x04 0xFC
  | .displayControl _ => .instrByte 0x08 0xF8
  | .shift _ => .instrByte 0x18 0xFB
  | .functionSet _ => .instrByte 0x20 0xF7
  | .setCgram _ _ => .instrByte 0x40 0xC7
  | .setDdram _ _ => .instrByte 0x80 0x80
  | .resetNibble3 => .instrNibble 0x3
  | .modeLockNibble2 => .instrNibble 0x2
  | .dataByte _ _ => .dataByte
  | .outputWord _ _ _ _ => .portWord

/-- Whether an encoding lies in a row. -/
def Row.admits : Row → Encoded → Prop
  | .command pattern, .command word _ => word &&& 0x1F0000 = pattern
  | .instrByte pattern mask, .request (.instrByte v _) => v &&& mask = pattern
  | .instrNibble pattern, .request (.instrNibble n) => n = pattern
  | .dataByte, .request (.dataByte _ _) => True
  | .portWord, .request (.portWord _) => True
  | _, _ => False

/-- The encoding of i lies in its row. -/
def Statement (i : Instr) : Prop := (row i).admits (encode Config.reference i)

/-- The mask of the CMD rows keeps the opcode and nothing else. -/
theorem commandWord_and_mask (op : BitVec 5) (a b : Byte) :
    commandWord op a b &&& 0x1F0000#21 = commandWord op 0 0 := by
  have hop : commandWord op 0 0 = op.setWidth 21 <<< 16 := by simp [commandWord]
  have hm : (0x1F0000#21) = (0x1F#5).setWidth 21 <<< 16 := by decide
  rw [hop, hm]
  ext i hi
  simp only [commandWord, BitVec.getElem_and, BitVec.getElem_or, BitVec.getElem_shiftLeft, BitVec.getElem_setWidth]
  by_cases h16 : i < 16
  · simp [h16]
  · have hm' : (0x1F#5).getLsbD (i - 16) = decide (i - 16 < 5) := by
      rw [show (0x1F#5) = BitVec.allOnes 5 from by decide]
      exact BitVec.getLsbD_allOnes
    have ha : a.getLsbD (i - 8) = false := BitVec.getLsbD_of_ge _ _ (by omega)
    have hb : b.getLsbD i = false := BitVec.getLsbD_of_ge _ _ (by omega)
    have hi' : i - 16 < 5 := by omega
    simp [h16, hm', ha, hb, hi']

theorem begin (cols : Byte) (rows : Byte) : Statement (.begin cols rows) :=
  (commandWord_and_mask _ _ _).trans (by decide)

theorem init : Statement .init := (commandWord_and_mask _ _ _).trans (by decide)

theorem clear : Statement .clear := (commandWord_and_mask _ _ _).trans (by decide)

theorem home : Statement .home := (commandWord_and_mask _ _ _).trans (by decide)

theorem setCursor (col : Byte) (row : Byte) : Statement (.setCursor col row) :=
  (commandWord_and_mask _ _ _).trans (by decide)

theorem cursor : Statement .cursor := (commandWord_and_mask _ _ _).trans (by decide)

theorem noCursor : Statement .noCursor := (commandWord_and_mask _ _ _).trans (by decide)

theorem blink : Statement .blink := (commandWord_and_mask _ _ _).trans (by decide)

theorem noBlink : Statement .noBlink := (commandWord_and_mask _ _ _).trans (by decide)

theorem display : Statement .display := (commandWord_and_mask _ _ _).trans (by decide)

theorem noDisplay : Statement .noDisplay := (commandWord_and_mask _ _ _).trans (by decide)

theorem scrollDisplayLeft : Statement .scrollDisplayLeft := (commandWord_and_mask _ _ _).trans (by decide)

theorem scrollDisplayRight : Statement .scrollDisplayRight := (commandWord_and_mask _ _ _).trans (by decide)

theorem leftToRight : Statement .leftToRight := (commandWord_and_mask _ _ _).trans (by decide)

theorem rightToLeft : Statement .rightToLeft := (commandWord_and_mask _ _ _).trans (by decide)

theorem autoscroll : Statement .autoscroll := (commandWord_and_mask _ _ _).trans (by decide)

theorem noAutoscroll : Statement .noAutoscroll := (commandWord_and_mask _ _ _).trans (by decide)

theorem setBacklight (level : Byte) : Statement (.setBacklight level) :=
  (commandWord_and_mask _ _ _).trans (by decide)

theorem createChar (slot : Byte) (bitmap : Bitmap) : Statement (.createChar slot bitmap) :=
  (commandWord_and_mask _ _ _).trans (by decide)

theorem write (ch : Byte) : Statement (.write ch) :=
  (commandWord_and_mask _ _ _).trans (by decide)

theorem clearByte : Statement .clearByte := rfl

theorem homeByte : Statement .homeByte := rfl

theorem entryModeSet (flags : BitVec 2) : Statement (.entryModeSet flags) := by
  revert flags
  show ∀ flags : BitVec 2, entryModeByte flags &&& 0xFC = 0x04
  decide

theorem displayControl (flags : BitVec 3) : Statement (.displayControl flags) := by
  revert flags
  show ∀ flags : BitVec 3, displayControlByte flags &&& 0xF8 = 0x08
  decide

theorem shift (right : Bool) : Statement (.shift right) := by cases right <;> rfl

theorem functionSet (lines2 : Bool) : Statement (.functionSet lines2) := by cases lines2 <;> rfl

theorem setCgram (p : Partition) (k : BitVec 3) : Statement (.setCgram p k) := by
  revert k
  show ∀ k : BitVec 3, setCgramByte k &&& 0xC7 = 0x40
  decide

theorem setDdram (p : Partition) (a : BitVec 7) : Statement (.setDdram p a) := by
  revert a
  show ∀ a : BitVec 7, setDdramByte a &&& 0x80 = 0x80
  decide

theorem resetNibble3 : Statement .resetNibble3 := rfl

theorem modeLockNibble2 : Statement .modeLockNibble2 := rfl

theorem dataByte (p : Partition) (v : Byte) : Statement (.dataByte p v) := trivial

theorem outputWord (n : Nibble) (isData : Bool) (p : Partition) (backlight : Bool) :
    Statement (.outputWord n isData p backlight) := trivial

end Sys2Proof.Laws.TableRow
end

