-- ==== Sys2Proof/Laws/Step.lean ====
section
/-! SUPPORT. What a step and a fetch can do, said once: everything later is a case of these lemmas. -/

namespace Sys2Proof.Machine

/-- A fetch that finds nothing to do. -/
theorem State.fetch_idle {s : State} (hr : s.request = none) (h : s.busy = true ∨ s.cmdValid = false) :
    s.fetch = .idle := by
  rcases h with h | h <;> simp [State.fetch, hr, h]

/-- A fetch of a standing transfer. -/
theorem State.fetch_request {s : State} {r : Request} (hr : s.request = some r) :
    s.fetch = runDecoded (decodeRequest s.cfg r) s.takeRequest := by
  simp [State.fetch, hr]

/-- A fetch of a presented command. -/
theorem State.fetch_command {s : State} (h : s.ready) :
    s.fetch = runDecoded (decodeCommand s.cmdWord s.cmdGlyph) s.accept := by
  obtain ⟨hr, hb, hv⟩ := h
  simp [State.fetch, hr, hb, hv]

/-- Every state is idle, or holds a standing transfer, or is ready to take a command. -/
theorem State.fetch_split (s : State) :
    (s.request = none ∧ (s.busy = true ∨ s.cmdValid = false)) ∨ (∃ r, s.request = some r) ∨ s.ready := by
  cases hr : s.request with
  | some r => exact .inr (.inl ⟨r, rfl⟩)
  | none =>
    by_cases hb : s.busy = true
    · exact .inl ⟨rfl, .inl hb⟩
    · by_cases hv : s.cmdValid = true
      · exact .inr (.inr ⟨hr, by simpa using hb, hv⟩)
      · exact .inl ⟨rfl, .inr (by simpa using hv)⟩

/-- Where a step's next state comes from: nothing happened, or a standing transfer ran, or a presented command ran. -/
theorem step_cases {s t : State} (h : step s = .next t) :
    t = s ∨
    (∃ r i, s.request = some r ∧ decodeRequest s.cfg r = .ok i ∧ exec i s.takeRequest = .next t) ∨
    (s.ready ∧ ∃ i, decodeCommand s.cmdWord s.cmdGlyph = .ok i ∧ exec i s.accept = .next t) := by
  rcases s.fetch_split with ⟨hr, hidle⟩ | ⟨r, hr⟩ | hready
  · rw [step, State.fetch_idle hr hidle] at h
    injection h with h
    exact .inl h.symm
  · rw [step, State.fetch_request hr] at h
    cases hd : decodeRequest s.cfg r with
    | ok i =>
      rw [hd] at h
      exact .inr (.inl ⟨r, i, hr, hd, h⟩)
    | error e =>
      rw [hd] at h
      cases h
  · rw [step, State.fetch_command hready] at h
    cases hd : decodeCommand s.cmdWord s.cmdGlyph with
    | ok i =>
      rw [hd] at h
      exact .inr (.inr ⟨hready, i, rfl, h⟩)
    | error e =>
      rw [hd] at h
      cases h

/-- A placed command is the one the next step takes. -/
theorem State.place_command_ready (s : State) (word : BitVec 21) (glyph : BitVec 64) :
    (s.place (.command word glyph)).ready := ⟨rfl, rfl, rfl⟩

/-- A placed transfer stands. -/
theorem State.place_request (s : State) (r : Request) : (s.place (.request r)).request = some r := rfl

end Sys2Proof.Machine
end

