-- ==== Sys2Proof/Tests/Slice0.lean ====
section
/-! SUPPORT. The model's own tests: expected values are written out from 30_encoding.md and copied from the vectors of
95_test_vectors.md. After them, one witness for each obligation that has hypotheses. -/

namespace Sys2Proof.Tests

open Sys2Proof Sys2Proof.Machine

/-! ## Helpers -/

/-- A block under the default parameters with the given registers, in the order of 95_test_vectors.md (BL_LEVEL, ENTRY,
DISPCTL, PART, ROWS), whose next eighty writes succeed. -/
def start (bl : Byte) (entry : BitVec 2) (dispctl : BitVec 3) (part : Partition) (rows : Byte) : State :=
  { State.reset with
    blLevel := bl
    entry := entry
    dispctl := dispctl
    part := part
    rows := rows
    answers := List.replicate 80 0 }

/-- The state a step ends in. -/
def final : Host.Outcome State Fault Refusal → Option State
  | .next t => some t
  | .fault _ => none
  | .refused _ => none

/-- The bus words of a step. -/
def words (o : Host.Outcome State Fault Refusal) : List Byte := ((final o).map fun t => lineWords t.trace).getD []

/-- The waits of a step. -/
def waits (o : Host.Outcome State Fault Refusal) : List Nat := ((final o).map fun t => waitsIn t.trace).getD []

/-- The whole trace of a step. -/
def events (o : Host.Outcome State Fault Refusal) : List Event := ((final o).map State.trace).getD []

/-- The registers after a step. -/
def regs (o : Host.Outcome State Fault Refusal) : Option (Byte × BitVec 2 × BitVec 3 × Partition × Byte) :=
  (final o).map fun t => (t.blLevel, t.entry, t.dispctl, t.part, t.rows)

/-- STATUS, RESULT and BUSY after a step. -/
def answer (o : Host.Outcome State Fault Refusal) : Option (Status × Byte × Bool) :=
  (final o).map fun t => (t.status, t.result, t.busy)

/-! ## Well-formedness: each check refuses an ill-formed term -/

theorem test_setCgram_to_none_is_ill_formed : (Instr.setCgram .none 0).wellFormed = false := by decide

theorem test_setDdram_to_none_is_ill_formed : (Instr.setDdram .none 0x40).wellFormed = false := by decide

theorem test_data_to_none_is_well_formed : (Instr.dataByte .none 0x41).wellFormed = true := by decide

/-! ## Decoding: words written out from 30_encoding.md R55, R64, R65, R69 and R50 -/

theorem test_decode_commands_00_to_09 :
    decodeCommand 0b00000_00010100_00000100 0 = .ok (.begin 20 4) ∧
    decodeCommand 0b00001_00000000_00000000 0 = .ok .init ∧
    decodeCommand 0b00010_00000000_00000000 0 = .ok .clear ∧
    decodeCommand 0b00011_00000000_00000000 0 = .ok .home ∧
    decodeCommand 0b00100_00000101_00000010 0 = .ok (.setCursor 5 2) ∧
    decodeCommand 0b00101_00000000_00000000 0 = .ok .cursor ∧
    decodeCommand 0b00110_00000000_00000000 0 = .ok .noCursor ∧
    decodeCommand 0b00111_00000000_00000000 0 = .ok .blink ∧
    decodeCommand 0b01000_00000000_00000000 0 = .ok .noBlink ∧
    decodeCommand 0b01001_00000000_00000000 0 = .ok .display := by decide

theorem test_decode_commands_0A_to_13 :
    decodeCommand 0b01010_00000000_00000000 0 = .ok .noDisplay ∧
    decodeCommand 0b01011_00000000_00000000 0 = .ok .scrollDisplayLeft ∧
    decodeCommand 0b01100_00000000_00000000 0 = .ok .scrollDisplayRight ∧
    decodeCommand 0b01101_00000000_00000000 0 = .ok .leftToRight ∧
    decodeCommand 0b01110_00000000_00000000 0 = .ok .rightToLeft ∧
    decodeCommand 0b01111_00000000_00000000 0 = .ok .autoscroll ∧
    decodeCommand 0b10000_00000000_00000000 0 = .ok .noAutoscroll ∧
    decodeCommand 0b10001_11111111_00000000 0 = .ok (.setBacklight 255) ∧
    decodeCommand 0b10010_00001001_00000000 0x001111111F11110E =
      .ok (.createChar 9 ⟨0x0E, 0x11, 0x11, 0x1F, 0x11, 0x11, 0x11, 0x00⟩) ∧
    decodeCommand 0b10011_01000001_00000000 0 = .ok (.write 0x41) := by decide

/-- 95_test_vectors.md 2.10: reserved opcodes decode to no command, unused fields are ignored. -/
theorem test_decode_reserved_and_ignored :
    decodeCommand 0x140000 0 = .error (.reservedOpcode 0x14) ∧ decodeCommand 0x1F0000 0 = .error (.reservedOpcode 0x1F) ∧
    decodeCommand 0x0200FF 0 = .ok .clear ∧ decodeCommand 0x02AB00 5 = .ok .clear := by decide

theorem test_decode_instruction_bytes :
    decodeRequest Config.reference (.instrByte 0b00000001 .none) = .ok .clearByte ∧
    decodeRequest Config.reference (.instrByte 0b00000010 .none) = .ok .homeByte ∧
    decodeRequest Config.reference (.instrByte 0b00000110 .none) = .ok (.entryModeSet 0b10) ∧
    decodeRequest Config.reference (.instrByte 0b00001101 .none) = .ok (.displayControl 0b101) ∧
    decodeRequest Config.reference (.instrByte 0b00011000 .none) = .ok (.shift false) ∧
    decodeRequest Config.reference (.instrByte 0b00011100 .none) = .ok (.shift true) ∧
    decodeRequest Config.reference (.instrByte 0b00100000 .none) = .ok (.functionSet false) ∧
    decodeRequest Config.reference (.instrByte 0b00101000 .none) = .ok (.functionSet true) ∧
    decodeRequest Config.reference (.instrByte 0b01001000 .top) = .ok (.setCgram .top 1) ∧
    decodeRequest Config.reference (.instrByte 0b10011001 .bottom) = .ok (.setDdram .bottom 0x19) := by decide

/-- 30_encoding.md R51: the pattern nnnnbtur under the reference masks. -/
theorem test_decode_other_transfers :
    decodeRequest Config.reference (.instrNibble 0b0011) = .ok .resetNibble3 ∧
    decodeRequest Config.reference (.instrNibble 0b0010) = .ok .modeLockNibble2 ∧
    decodeRequest Config.reference (.dataByte 0b01000001 .bottom) = .ok (.dataByte .bottom 0x41) ∧
    decodeRequest Config.reference (.portWord 0b0100_1011) = .ok (.outputWord 0x4 true .bottom true) ∧
    decodeRequest Config.reference (.portWord 0b0011_0100) = .ok (.outputWord 0x3 false .top false) ∧
    decodeRequest Config.reference (.portWord 0b0011_0110) = .error (.bothEnables 0x36) := by decide

/-- 30_encoding.md R66: bytes that the block never emits, at the ends of the listed ranges. -/
theorem test_never_emitted_bytes :
    (([0x00, 0x03, 0x10, 0x17, 0x19, 0x1B, 0x1D, 0x1F, 0x21, 0x27, 0x29, 0x3F, 0x41, 0x7F] : List Byte).all fun v =>
      decodeRequest Config.reference (.instrByte v .top) == .error (.byteNeverEmitted v)) = true := by decide

theorem test_decodeTableWord :
    decodeTableWord 24 0x040502 = some (.setCursor 5 2) ∧ decodeTableWord 24 0x140000 = none ∧
    decodeTableWord 8 0x18 = some (.shift false) ∧ decodeTableWord 8 0x48 = some (.setCgram .top 1) ∧
    decodeTableWord 4 0x2 = some .modeLockNibble2 ∧ decodeTableWord 8 0x3 = some .resetNibble3 := by decide

/-! ## The transfer micro-operations: 95_test_vectors.md 2.1 -/

theorem test_packWord :
    (start 1 0 0 .none 0).packWord 0xF true .top = 0xFD ∧ (start 7 0 0 .none 0).packWord 0x5 true .none = 0x59 ∧
    (start 0 0 0 .none 0).packWord 0xA false .bottom = 0xA2 ∧ (start 255 0 0 .none 0).packWord 0x2 false .top = 0x2C := by
  decide

theorem test_sendNibble_trace :
    ((start 1 0 0 .none 0).sendNibble 0xA true .top).1.trace =
      [.write 0x3F 0xAD 0, .delay 1, .write 0x3F 0xA9 0, .delay 37] := by decide

/-- Codes (0, 3) give 3, codes (2, 3) give 2, and every failure is reported. -/
theorem test_sendNibble_status :
    ({ State.reset with answers := [0, 3] }.sendNibble 0 false .top).2 = 3 ∧
    ({ State.reset with answers := [2, 3] }.sendNibble 0 false .top).2 = 2 ∧
    ({ State.reset with answers := [2, 3] }.sendNibble 0 false .top).1.trace =
      [.write 0x3F 0x04 2, .report 2, .delay 1, .write 0x3F 0x00 3, .report 3, .delay 37] := by decide

/-- 95_test_vectors.md 2.9, another admissible choice of masks. -/
def otherMasks : Config :=
  { Config.reference with rsMask := 0x08, enTopMask := 0x01, enBotMask := 0x04, blMask := 0x02 }

theorem test_other_masks :
    otherMasks.Valid ∧ words (exec (.write 0x41) { start 1 0 0 .bottom 0 with cfg := otherMasks }) = [0x4E, 0x4A, 0x1E, 0x1A] ∧
    words (exec .resetNibble3 { start 0 0 0 .bottom 0 with cfg := otherMasks }) = [0x31, 0x30, 0x34, 0x30] := by decide

/-! ## The forms the block sends -/

/-- Broadcast(0x28), 95_test_vectors.md 2.1. -/
theorem test_functionSet : words (exec (.functionSet true) (start 0 2 0 .none 0)) =
    [0x24, 0x20, 0x84, 0x80, 0x22, 0x20, 0x82, 0x80] := by decide

theorem test_clearByte : events (exec .clearByte (start 0 2 0 .none 0)) =
    [.write 0x3F 0x04 0, .delay 1, .write 0x3F 0x00 0, .delay 37, .write 0x3F 0x14 0, .delay 1, .write 0x3F 0x10 0, .delay 37,
     .write 0x3F 0x02 0, .delay 1, .write 0x3F 0x00 0, .delay 37, .write 0x3F 0x12 0, .delay 1, .write 0x3F 0x10 0,
     .delay 37] := by decide

theorem test_homeByte : words (exec .homeByte (start 0 2 0 .none 0)) =
    [0x04, 0x00, 0x24, 0x20, 0x02, 0x00, 0x22, 0x20] := by decide

theorem test_entryModeSet : words (exec (.entryModeSet 0b11) (start 0 2 0 .none 0)) =
    [0x04, 0x00, 0x74, 0x70, 0x02, 0x00, 0x72, 0x70] := by decide

theorem test_displayControl : words (exec (.displayControl 0b101) (start 0 2 0 .none 0)) =
    [0x04, 0x00, 0xD4, 0xD0, 0x02, 0x00, 0xD2, 0xD0] := by decide

theorem test_shift : words (exec (.shift true) (start 0 2 0 .none 0)) =
    [0x14, 0x10, 0xC4, 0xC0, 0x12, 0x10, 0xC2, 0xC0] := by decide

theorem test_setCgram : words (exec (.setCgram .bottom 1) (start 0 2 0 .top 0)) = [0x42, 0x40, 0x82, 0x80] := by decide

theorem test_setDdram : words (exec (.setDdram .bottom 0x19) (start 0 2 0 .top 0)) = [0x92, 0x90, 0x92, 0x90] := by decide

/-- Send(0x00, 1, TOP) with BL_LEVEL = 1, 95_test_vectors.md 2.1. -/
theorem test_dataByte : words (exec (.dataByte .top 0x00) (start 1 2 0 .bottom 0)) = [0x0D, 0x09, 0x0D, 0x09] := by decide

theorem test_resetNibble3 : words (exec .resetNibble3 (start 0 2 0 .none 0)) = [0x34, 0x30, 0x32, 0x30] := by decide

theorem test_modeLockNibble2 : words (exec .modeLockNibble2 (start 0 2 0 .none 0)) = [0x24, 0x20, 0x22, 0x20] := by decide

/-- The word keeps its own backlight bit although BL_LEVEL is 0 (assumption 25). -/
theorem test_outputWord : events (exec (.outputWord 0x4 true .bottom true) (start 0 2 0 .none 0)) =
    [.write 0x3F 0x4B 0] := by decide

/-! ## begin and init: 95_test_vectors.md 2.2 and program P1 -/

set_option maxRecDepth 20000 in
theorem test_begin_words : words (exec (.begin 20 4) (start 0 0b10 0 .none 0)) =
    [0x34, 0x30, 0x32, 0x30, 0x34, 0x30, 0x32, 0x30, 0x34, 0x30, 0x32, 0x30, 0x24, 0x20, 0x22, 0x20] ++
    [0x24, 0x20, 0x84, 0x80, 0x22, 0x20, 0x82, 0x80, 0x04, 0x00, 0xC4, 0xC0, 0x02, 0x00, 0xC2, 0xC0] ++
    [0x04, 0x00, 0x14, 0x10, 0x02, 0x00, 0x12, 0x10, 0x04, 0x00, 0x64, 0x60, 0x02, 0x00, 0x62, 0x60] := by decide

set_option maxRecDepth 20000 in
/-- Flags are not reloaded (41_init.md R105). -/
theorem test_begin_keeps_flags :
    regs (exec (.begin 40 2) (start 0 0b11 0b010 .none 9)) = some (0, 0b11, 0b110, .none, 2) ∧
    (waits (exec (.begin 40 2) (start 0 0b11 0b010 .none 9))).sum = 7312 ∧
    (events (exec (.begin 40 2) (start 0 0b11 0b010 .none 9))).head? = some .busBegin := by decide

/-- 95_test_vectors.md 2.2: "Identical to clear()", the closing event included (41_init.md R106). -/
theorem test_init : events (exec .init (start 0 2 4 .bottom 4)) =
    [.write 0x3F 0x04 0, .delay 1, .write 0x3F 0x00 0, .delay 37, .write 0x3F 0x14 0, .delay 1, .write 0x3F 0x10 0, .delay 37,
     .write 0x3F 0x02 0, .delay 1, .write 0x3F 0x00 0, .delay 37, .write 0x3F 0x12 0, .delay 1, .write 0x3F 0x10 0,
     .delay 37, .delay 1500, .done .clear .ok 0] := by decide

/-! ## The display commands: 95_test_vectors.md 2.3 to 2.5 -/

theorem test_clear : words (exec .clear (start 255 2 4 .bottom 4)) =
      [0x0C, 0x08, 0x1C, 0x18, 0x0A, 0x08, 0x1A, 0x18] ∧
    regs (exec .clear (start 255 2 4 .bottom 4)) = some (255, 2, 4, .bottom, 4) := by decide

/-- Every write fails with code 4: the sequence is unchanged, eight reports, STATUS = 0 (2.10). -/
theorem test_clear_all_writes_fail :
    (events (exec .clear { start 0 2 4 .bottom 4 with answers := List.replicate 8 4 })).count (.report 4) = 8 ∧
    waits (exec .clear { start 0 2 4 .bottom 4 with answers := List.replicate 8 4 }) =
      [1, 37, 1, 37, 1, 37, 1, 37, 1500] ∧
    answer (exec .clear { start 0 2 4 .bottom 4 with answers := List.replicate 8 4 }) = some (.ok, 0, false) := by decide

theorem test_home : words (exec .home (start 0 2 4 .bottom 4)) = [0x04, 0x00, 0x24, 0x20, 0x02, 0x00, 0x22, 0x20] ∧
    regs (exec .home (start 0 2 4 .bottom 4)) = some (0, 2, 4, .top, 4) := by decide

/-- The source's scenario: addition, not OR, between base and column. -/
theorem test_setCursor_5_2 : words (exec (.setCursor 5 2) (start 0 2 4 .top 4)) = [0x92, 0x90, 0x92, 0x90] ∧
    regs (exec (.setCursor 5 2) (start 0 2 4 .top 4)) = some (0, 2, 4, .bottom, 4) := by decide

theorem test_setCursor_wraps : words (exec (.setCursor 172 3) (start 0 2 4 .top 4)) = [0x82, 0x80, 0x02, 0x00] ∧
    words (exec (.setCursor 255 3) (start 0 2 4 .top 4)) = [0xD2, 0xD0, 0x32, 0x30] := by decide

theorem test_display : words (exec .display (start 0 2 0 .top 4)) = [0x04, 0x00, 0xC4, 0xC0, 0x02, 0x00, 0xC2, 0xC0] ∧
    regs (exec .display (start 0 2 0 .top 4)) = some (0, 2, 0b100, .top, 4) := by decide

theorem test_noDisplay : words (exec .noDisplay (start 0 2 7 .top 4)) =
      [0x04, 0x00, 0xB4, 0xB0, 0x02, 0x00, 0xB2, 0xB0] ∧
    regs (exec .noDisplay (start 0 2 7 .top 4)) = some (0, 2, 0b011, .top, 4) := by decide

theorem test_cursor : words (exec .cursor (start 0 2 4 .top 4)) = [0x04, 0x00, 0xE4, 0xE0, 0x02, 0x00, 0xE2, 0xE0] ∧
    regs (exec .cursor (start 0 2 4 .top 4)) = some (0, 2, 0b110, .top, 4) := by decide

theorem test_noCursor : words (exec .noCursor (start 0 2 7 .top 4)) = [0x04, 0x00, 0xD4, 0xD0, 0x02, 0x00, 0xD2, 0xD0] ∧
    regs (exec .noCursor (start 0 2 7 .top 4)) = some (0, 2, 0b101, .top, 4) := by decide

theorem test_blink : words (exec .blink (start 0 2 6 .top 4)) = [0x04, 0x00, 0xF4, 0xF0, 0x02, 0x00, 0xF2, 0xF0] ∧
    regs (exec .blink (start 0 2 6 .top 4)) = some (0, 2, 0b111, .top, 4) := by decide

theorem test_noBlink : words (exec .noBlink (start 0 2 5 .top 4)) = [0x04, 0x00, 0xC4, 0xC0, 0x02, 0x00, 0xC2, 0xC0] ∧
    regs (exec .noBlink (start 0 2 5 .top 4)) = some (0, 2, 0b100, .top, 4) := by decide

theorem test_scrollDisplayLeft : words (exec .scrollDisplayLeft (start 0 1 5 .top 4)) =
      [0x14, 0x10, 0x84, 0x80, 0x12, 0x10, 0x82, 0x80] ∧
    regs (exec .scrollDisplayLeft (start 0 1 5 .top 4)) = some (0, 1, 5, .top, 4) := by decide

theorem test_scrollDisplayRight : words (exec .scrollDisplayRight (start 0 1 5 .top 4)) =
      [0x14, 0x10, 0xC4, 0xC0, 0x12, 0x10, 0xC2, 0xC0] ∧
    regs (exec .scrollDisplayRight (start 0 1 5 .top 4)) = some (0, 1, 5, .top, 4) := by decide

theorem test_leftToRight : words (exec .leftToRight (start 0 0 5 .top 4)) =
      [0x04, 0x00, 0x64, 0x60, 0x02, 0x00, 0x62, 0x60] ∧
    regs (exec .leftToRight (start 0 0 5 .top 4)) = some (0, 0b10, 5, .top, 4) := by decide

theorem test_rightToLeft : words (exec .rightToLeft (start 0 3 5 .top 4)) =
      [0x04, 0x00, 0x54, 0x50, 0x02, 0x00, 0x52, 0x50] ∧
    regs (exec .rightToLeft (start 0 3 5 .top 4)) = some (0, 0b01, 5, .top, 4) := by decide

theorem test_autoscroll : words (exec .autoscroll (start 0 2 5 .top 4)) =
      [0x04, 0x00, 0x74, 0x70, 0x02, 0x00, 0x72, 0x70] ∧
    regs (exec .autoscroll (start 0 2 5 .top 4)) = some (0, 0b11, 5, .top, 4) := by decide

theorem test_noAutoscroll : words (exec .noAutoscroll (start 0 1 5 .top 4)) =
      [0x04, 0x00, 0x44, 0x40, 0x02, 0x00, 0x42, 0x40] ∧
    regs (exec .noAutoscroll (start 0 1 5 .top 4)) = some (0, 0b00, 5, .top, 4) := by decide

/-! ## Backlight, glyph and write: 95_test_vectors.md 2.6 to 2.8, 2.10 and program P3 -/

theorem test_setBacklight_on : events (exec (.setBacklight 255) (start 0 2 4 .top 4)) =
      [.write 0x3F 0x08 0, .delay 1, .write 0x3F 0x08 0, .delay 37, .done .setBacklight .ok 0] ∧
    regs (exec (.setBacklight 255) (start 0 2 4 .top 4)) = some (255, 2, 4, .top, 4) := by decide

theorem test_setBacklight_off : words (exec (.setBacklight 0) (start 5 2 4 .top 4)) = [0x00, 0x00] ∧
    regs (exec (.setBacklight 0) (start 5 2 4 .top 4)) = some (0, 2, 4, .top, 4) := by decide

set_option maxRecDepth 20000 in
theorem test_createChar_slot_9 :
    words (exec (.createChar 9 ⟨0x0E, 0x11, 0x11, 0x1F, 0x11, 0x11, 0x11, 0x00⟩) (start 0 2 4 .top 4)) =
      [0x44, 0x40, 0x84, 0x80, 0x05, 0x01, 0xE5, 0xE1, 0x15, 0x11, 0x15, 0x11, 0x15, 0x11, 0x15, 0x11] ++
      [0x15, 0x11, 0xF5, 0xF1, 0x15, 0x11, 0x15, 0x11, 0x15, 0x11, 0x15, 0x11, 0x15, 0x11, 0x15, 0x11] ++
      [0x05, 0x01, 0x05, 0x01] ++
      [0x42, 0x40, 0x82, 0x80, 0x03, 0x01, 0xE3, 0xE1, 0x13, 0x11, 0x13, 0x11, 0x13, 0x11, 0x13, 0x11] ++
      [0x13, 0x11, 0xF3, 0xF1, 0x13, 0x11, 0x13, 0x11, 0x13, 0x11, 0x13, 0x11, 0x13, 0x11, 0x13, 0x11] ++
      [0x03, 0x01, 0x03, 0x01] := by decide

set_option maxRecDepth 20000 in
/-- Rows are sent unmasked, slot 255 is slot 7, PART is unchanged. -/
theorem test_createChar_unmasked :
    (words (exec (.createChar 255 ⟨0xFF, 0, 0, 0, 0, 0, 0, 0xE0⟩) (start 0 2 4 .bottom 4))).take 8 =
      [0x74, 0x70, 0x84, 0x80, 0xF5, 0xF1, 0xF5, 0xF1] ∧
    regs (exec (.createChar 255 ⟨0xFF, 0, 0, 0, 0, 0, 0, 0xE0⟩) (start 0 2 4 .bottom 4)) =
      some (0, 2, 4, .bottom, 4) := by decide

theorem test_write_none : words (exec (.write 0x41) (start 0 2 4 .none 4)) = [0x41, 0x41, 0x11, 0x11] ∧
    answer (exec (.write 0x41) (start 0 2 4 .none 4)) = some (.ok, 1, false) := by decide

/-- Codes (0, 2, 3, 0) in `write(0x78)`, 2.10. -/
theorem test_write_errors :
    events (exec (.write 0x78) { start 1 2 4 .bottom 4 with answers := [0, 2, 3, 0] }) =
      [.write 0x3F 0x7B 0, .delay 1, .write 0x3F 0x79 2, .report 2, .delay 37, .write 0x3F 0x8B 3, .report 3, .delay 1,
       .write 0x3F 0x89 0, .delay 37, .done .write .ok 1] := by decide

/-! ## The step from reset -/

/-- The word presented on the port of a block just constructed runs, whatever the transport answers. -/
theorem test_step_from_reset :
    (final (step (State.reset.withFetchWord 24 0x040304))).map (fun t => (t.status, t.result, t.busy, t.part)) =
      some (.invalidArgument, 0, false, .none) ∧
    (final (step (State.reset.withFetchWord 24 0x030000))).map (fun t => (t.status, t.busy, t.part)) =
      some (.ok, false, .top) ∧
    (final (step (State.reset.withFetchWord 8 0x18))).isSome = true := by decide

theorem test_step_refuses_reserved_opcode :
    step (State.reset.withFetchWord 24 0x140000) = .refused (.reservedOpcode 0x14) := rfl

/-! ## Witnesses: for each obligation with hypotheses, values that meet them all -/

/-- The start state with a command word on its port. -/
def presented (word : BitVec 21) : State := (start 1 2 4 .bottom 4).present word 0

theorem witness_DecodeOfEncode :
    Config.reference.Valid ∧ otherMasks.Valid ∧ (Instr.setDdram .bottom 0x7F).wellFormed = true :=
  ⟨by decide, by decide, by decide⟩

theorem witness_CommandWordMeansItsUsedFields :
    decodeCommand 0x0200FF 0 = .ok .clear ∧ opField 0x02AB00 = opField 0x0200FF ∧ usesA .clear = false ∧
    usesB .clear = false ∧ usedGlyph 5 .clear = usedGlyph 0 .clear ∧ decodeCommand 0x130041 0 = .ok (.write 0) := by decide

theorem witness_ReservedOpcodesAreRefused :
    (presented 0x140000).ready ∧ 0x14 ≤ ((0x140000 : BitVec 21).extractLsb' 16 5).toNat ∧
    0x14 ≤ ((0x1FFFFF : BitVec 21).extractLsb' 16 5).toNat ∧ ((0x13FFFF : BitVec 21).extractLsb' 16 5).toNat < 0x14 := by
  decide

theorem witness_RequestMeansItsForm :
    Config.reference.Valid ∧ decodeRequest Config.reference (.portWord 0xFD) = .ok (.outputWord 0xF true .top true) ∧
    decodeRequest Config.reference (.instrByte 0x1C .bottom) = .ok (.shift true) := by decide

theorem witness_InstructionBytesWithARow :
    Config.reference.Valid ∧ Config.reference.funcsetBase = 0x20 ∧ Config.reference.twoLine = 0x08 := by decide

theorem witness_StepRunsThePresentedCommand :
    (presented 0x130041).ready ∧ decodeCommand (presented 0x130041).cmdWord (presented 0x130041).cmdGlyph = .ok (.write 0) := by
  decide

theorem witness_StepRunsTheStandingTransfer :
    let s := (start 0 2 4 .top 4).place (.request (.dataByte 0x41 .top))
    s.request = some (.dataByte 0x41 .top) ∧ decodeRequest s.cfg (.dataByte 0x41 .top) = .ok (.dataByte .top 0x41) := by
  decide

theorem witness_CommandIgnoredWhileBusy :
    let s := { start 0 2 4 .top 4 with busy := true }
    s.request = none ∧ s.busy = true := by decide

theorem witness_StepIdlesWithNothingPresented : State.reset.request = none ∧ State.reset.cmdValid = false := by decide

theorem witness_NeverEmittedFormsAreRefused :
    decodeRequest Config.reference (.instrByte 0x00 .top) = .error (.byteNeverEmitted 0x00) ∧
    decodeRequest Config.reference (.instrByte 0x80 .none) = .error .noPartition ∧
    (0x06 : Byte) &&& Config.reference.enTopMask ≠ 0 ∧ (0x06 : Byte) &&& Config.reference.enBotMask ≠ 0 := by decide

theorem witness_PackedWordFields : (start 0 2 4 .top 4).cfg.MasksOk ∧ otherMasks.MasksOk := by decide

theorem witness_ReleasedWordAddressesNeither : Config.reference.MasksOk ∧ otherMasks.MasksOk := by decide

theorem witness_BusWriteRule : ({ State.reset with answers := [7] } : State).answers = 7 :: [] := by decide

theorem witness_SendNibbleRule : ({ State.reset with answers := [2, 3] } : State).answers = 2 :: 3 :: [] := by decide

/-- The four rows of the Row Map and the rows on either side of the check (42_display_commands.md R112). -/
theorem witness_SetCursorRule :
    regs (exec (.setCursor 0 0) (start 0 2 4 .bottom 4)) = some (0, 2, 4, .top, 4) ∧
    words (exec (.setCursor 0 1) (start 0 2 4 .bottom 4)) = [0xC4, 0xC0, 0x04, 0x00] ∧
    words (exec (.setCursor 0 2) (start 0 2 4 .top 4)) = [0x92, 0x90, 0x42, 0x40] ∧
    words (exec (.setCursor 0 3) (start 0 2 4 .top 4)) = [0xD2, 0xD0, 0x42, 0x40] ∧
    events (exec (.setCursor 0 4) (start 0 2 4 .top 4)) = [.done .setCursor .invalidArgument 0] := by decide

theorem witness_RowOutsideFourRaisesInvalidArgument :
    4 ≤ (4 : Byte).toNat ∧ 4 ≤ (255 : Byte).toNat ∧
    events (exec (.setCursor 0 255) (start 0 2 4 .top 4)) = [.done .setCursor .invalidArgument 0] ∧
    regs (exec (.setCursor 3 4) (start 0 2 4 .top 4)) = some (0, 2, 4, .top, 4) := by decide

set_option maxRecDepth 20000 in
theorem witness_BeginRule_two_line_boundary :
    ((words (exec (.begin 16 1) (start 1 2 0 .none 0))).drop 16).take 4 = [0x2C, 0x28, 0x0C, 0x08] ∧
    ((words (exec (.begin 16 2) (start 1 2 0 .none 0))).drop 16).take 4 = [0x2C, 0x28, 0x8C, 0x88] := by decide

theorem witness_RegistersFollowTheLifecycleTable : isCommand (.setCursor 0 3) = true ∧ isCommand .home = true := by decide

theorem witness_ErrorsNeverShortenASequence :
    let s := start 0 2 4 .top 4
    let s' := { s with answers := List.replicate 80 4, busy := true, result := 9 }
    s'.cfg = s.cfg ∧ s'.registers = s.registers := by decide

theorem witness_StatusAndResultAtTheEnd :
    isCommand (.write 0) = true ∧ isCommand (.setCursor 0 4) = true ∧ isCommand .clearByte = false := by decide

theorem witness_TransferAndCommandCounts : isCommand (.begin 20 4) = true ∧ isCommand (.setCursor 0 4) = true := by decide

theorem witness_CommandTimes :
    let c := State.reset.cfg
    c.tHold = 1 ∧ c.tSettle = 37 ∧ c.tClear = 1500 ∧ c.tHome = 1500 ∧ c.tInit1 = 4500 ∧ c.tInit2 = 200 ∧ c.tInit3 = 200 := by
  decide

/-- An idle block whose next eighty writes succeed. -/
def idle : State := { start 1 2 4 .bottom 4 with port := 0x08 }

theorem witness_StrobesDeliverWhatTheRuleSends :
    isCommand (.write 0x41) = true ∧ idle.cfg.Valid ∧ idle.linesIdle ∧
    (∀ k, k < instrWrites (.write 0x41) → idle.codeAt k = 0) ∧
    strobed idle.cfg .bottom idle.port (words (exec (.write 0x41) idle)) = [(true, 0x4), (true, 0x1)] ∧
    strobed idle.cfg .top idle.port (words (exec (.write 0x41) idle)) = [] := by decide

theorem witness_DeliveredInstructionBytesHaveRows :
    isCommand (.setCursor 5 2) = true ∧ idle.cfg.Valid ∧ idle.linesIdle ∧
    (∀ k, k < instrWrites (.setCursor 5 2) → idle.codeAt k = 0) ∧
    pairBytes (strobed idle.cfg .bottom idle.port (words (exec (.setCursor 5 2) idle))) = [(false, 0x99)] := by decide

set_option maxRecDepth 20000 in
/-- The form whose first four nibbles are single: `begin`, to each half, after them. -/
theorem witness_DeliveredInstructionBytesHaveRows_begin :
    isCommand (.begin 20 4) = true ∧ idle.cfg.Valid ∧ idle.linesIdle ∧
    (∀ k, k < instrWrites (.begin 20 4) → idle.codeAt k = 0) ∧
    pairBytes ((strobed idle.cfg .top idle.port (words (exec (.begin 20 4) idle))).drop 4) =
      [(false, 0x28), (false, 0x0C), (false, 0x01), (false, 0x06)] ∧
    pairBytes ((strobed idle.cfg .bottom idle.port (words (exec (.begin 20 4) idle))).drop 4) =
      [(false, 0x28), (false, 0x0C), (false, 0x01), (false, 0x06)] := by decide

theorem witness_EnableLinesIdleLow :
    isCommand (.write 0x41) = true ∧ idle.cfg.Valid ∧ 0 < instrWrites (.write 0x41) ∧
    idle.codeAt (instrWrites (.write 0x41) - 1) = 0 := by decide

theorem witness_BacklightOnEveryWord : isCommand (.setBacklight 3) = true ∧ idle.cfg.Valid := by decide

/-- A trace with a failed write, its report and a success keeps the discipline. -/
theorem witness_StepKeepsTheInvariant :
    let s := { presented 0x030000 with trace := [.write 0x3F 0x04 2, .report 2, .delay 1, .write 0x3F 0x00 0] }
    s.Inv ∧ (final (step s)).isSome = true := by
  refine ⟨⟨by decide, ?_, by decide, by decide⟩, by decide⟩
  exact ⟨rfl, by decide, rfl, rfl, by decide, trivial⟩

theorem witness_ConstructionMeetsTheInvariant : otherMasks.Valid ∧ Config.reference.Valid :=
  ⟨by decide, by decide⟩

theorem witness_StepKeepsAddressAndConfiguration : (final (step (presented 0x020000))).isSome = true := by decide

/-- A step that writes PART, one that keeps NONE. -/
theorem witness_StepNeverWritesNoneIntoPart :
    (final (step (presented 0x040000))).map State.part = some .top ∧
    (final (step ((start 0 2 4 .none 4).present 0x020000 0))).map State.part = some .none := by decide

theorem witness_OnlyWriteReadsPart : ∀ ch, Instr.home ≠ .write ch := by decide

theorem witness_NonzeroLevelsAreIndistinguishable : (start 1 2 4 .top 4).blLevel ≠ 0 ∧ (255 : Byte) ≠ 0 := by decide

theorem witness_FlagCommandsRoundTrip :
    (Instr.autoscroll, Instr.noAutoscroll, (0b01 : BitVec 2), (0b01 : BitVec 2), (0 : BitVec 3), (0 : BitVec 3)) ∈
      ([(.display, .noDisplay, 0, 0, 0b100, 0b100), (.cursor, .noCursor, 0, 0, 0b010, 0b010),
        (.blink, .noBlink, 0, 0, 0b001, 0b001), (.leftToRight, .rightToLeft, 0b10, 0b10, 0, 0),
        (.autoscroll, .noAutoscroll, 0b01, 0b01, 0, 0)] :
        List (Instr × Instr × BitVec 2 × BitVec 2 × BitVec 3 × BitVec 3)) := by decide

theorem witness_GlyphSlotWrapsModuloEight : (9 : Byte).toNat % 8 = (1 : Byte).toNat % 8 := by decide

end Sys2Proof.Tests
end

/-! PROOFS. What no instruction changes. `State.Frame s t` says what t has kept of s; each operation of the machine keeps
it, so an instruction keeps it as its own text is read, operation after operation. -/

namespace Sys2Proof.Machine

/-- What every operation leaves of s in t: the configuration (00_scope.md R5), ADDR (10_state.md R12), the inputs
(30_encoding.md R75) and the trace so far, which is only appended to (00_scope.md R7). -/
structure State.Frame (s t : State) : Prop where
  trace : s.trace <+: t.trace
  cfg : t.cfg = s.cfg
  addr : t.addr = s.addr
  cmdValid : t.cmdValid = s.cmdValid
  cmdWord : t.cmdWord = s.cmdWord
  cmdGlyph : t.cmdGlyph = s.cmdGlyph
  request : t.request = s.request

namespace State.Frame

theorem refl (s : State) : s.Frame s := ⟨List.prefix_rfl, rfl, rfl, rfl, rfl, rfl, rfl⟩

theorem trans {s t u : State} (h : s.Frame t) (h' : t.Frame u) : s.Frame u where
  trace := h.trace.trans h'.trace
  cfg := h'.cfg.trans h.cfg
  addr := h'.addr.trans h.addr
  cmdValid := h'.cmdValid.trans h.cmdValid
  cmdWord := h'.cmdWord.trans h.cmdWord
  cmdGlyph := h'.cmdGlyph.trans h.cmdGlyph
  request := h'.request.trans h.request

section Operations

variable {s t : State} (h : s.Frame t)
include h

/-! ## Register writes, bus sequences, ends of commands -/

theorem setBlLevel {v : Byte} : s.Frame (t.setBlLevel v) :=
  h.trans ⟨List.prefix_rfl, rfl, rfl, rfl, rfl, rfl, rfl⟩

theorem setRows {v : Byte} : s.Frame (t.setRows v) :=
  h.trans ⟨List.prefix_rfl, rfl, rfl, rfl, rfl, rfl, rfl⟩

theorem setEntry {v : BitVec 2} : s.Frame (t.setEntry v) :=
  h.trans ⟨List.prefix_rfl, rfl, rfl, rfl, rfl, rfl, rfl⟩

theorem setDispctl {v : BitVec 3} : s.Frame (t.setDispctl v) :=
  h.trans ⟨List.prefix_rfl, rfl, rfl, rfl, rfl, rfl, rfl⟩

theorem setPart {p : Partition} : s.Frame (t.setPart p) :=
  h.trans ⟨List.prefix_rfl, rfl, rfl, rfl, rfl, rfl, rfl⟩

theorem emit {sh : List Shape} : s.Frame (t.emit sh) :=
  h.trans ⟨List.prefix_append .., rfl, rfl, rfl, rfl, rfl, rfl⟩

theorem complete {op : Op} {r : Byte} : s.Frame (t.complete op r) :=
  h.trans ⟨List.prefix_append .., rfl, rfl, rfl, rfl, rfl, rfl⟩

theorem raiseInvalidArgument {op : Op} : s.Frame (t.raiseInvalidArgument op) :=
  h.trans ⟨List.prefix_append .., rfl, rfl, rfl, rfl, rfl, rfl⟩

/-! ## Transfers: each is the emission of a sequence -/

theorem busWrite {w : Byte} : s.Frame (t.busWrite w).1 := t.busWrite_eq_emit w ▸ h.emit

theorem delay {n : Nat} : s.Frame (t.delay n) := t.delay_eq_emit n ▸ h.emit

theorem busBegin : s.Frame t.busBegin := t.busBegin_eq_emit ▸ h.emit

theorem sendNibble {n : Nibble} {isData : Bool} {p : Partition} : s.Frame (t.sendNibble n isData p).1 :=
  t.sendNibble_eq_emit n isData p ▸ h.emit

theorem send {v : Byte} {isData : Bool} {p : Partition} : s.Frame (t.send v isData p) :=
  t.send_eq_emit v isData p ▸ h.emit

theorem broadcastNibble {n : Nibble} : s.Frame (t.broadcastNibble n) := t.broadcastNibble_eq_emit n ▸ h.emit

theorem broadcast {v : Byte} : s.Frame (t.broadcast v) := t.broadcast_eq_emit v ▸ h.emit

theorem sendRows {p : Partition} {vs : List Byte} : s.Frame (t.sendRows p vs) := t.sendRows_eq_emit p vs ▸ h.emit

/-! ## The bodies that commands share -/

theorem putDispctl {d : BitVec 3} : s.Frame (t.putDispctl d) := h.setDispctl.broadcast

theorem putEntry {e : BitVec 2} : s.Frame (t.putEntry e) := h.setEntry.broadcast

theorem displayOn : s.Frame t.displayOn := h.putDispctl

theorem setLeftToRight : s.Frame t.setLeftToRight := h.putEntry

theorem clearDisplay : s.Frame t.clearDisplay := h.broadcast.delay

theorem sendGlyph {slot : Byte} {bitmap : Bitmap} {p : Partition} : s.Frame (t.sendGlyph slot bitmap p) :=
  h.send.sendRows

theorem resetStep {n : Nibble} {w : Nat} : s.Frame (t.resetStep n w) := h.broadcastNibble.delay

theorem bringUp : s.Frame t.bringUp := h.busBegin.resetStep.resetStep.resetStep.broadcastNibble.broadcast

end Operations

end State.Frame

/-! ## Instructions -/

/-- Both ways `setCursor` can go: the row error of 60_exceptions.md R151, or PART and one instruction byte. -/
theorem execSetCursor_frame (col row : Byte) (s : State) : ∃ t, execSetCursor col row s = .next t ∧ s.Frame t := by
  have hs := State.Frame.refl s
  unfold execSetCursor
  cases cursorTarget col row with
  | none => exact ⟨_, rfl, hs.raiseInvalidArgument⟩
  | some target => exact ⟨_, rfl, hs.setPart.send.complete⟩

/-- Every instruction completes, and keeps the frame. -/
theorem exec_frame (i : Instr) (s : State) : ∃ t, exec i s = .next t ∧ s.Frame t :=
  have hs := State.Frame.refl s
  match i with
  | .begin _ _ => ⟨_, rfl, hs.setRows.bringUp.displayOn.clearDisplay.setLeftToRight.complete⟩
  | .init | .clear => ⟨_, rfl, hs.clearDisplay.complete⟩
  | .home => ⟨_, rfl, hs.broadcast.delay.setPart.complete⟩
  | .setCursor col row => execSetCursor_frame col row s
  | .display | .noDisplay | .cursor | .noCursor | .blink | .noBlink => ⟨_, rfl, hs.putDispctl.complete⟩
  | .scrollDisplayLeft | .scrollDisplayRight => ⟨_, rfl, hs.broadcast.complete⟩
  | .leftToRight | .rightToLeft | .autoscroll | .noAutoscroll => ⟨_, rfl, hs.putEntry.complete⟩
  | .setBacklight _ => ⟨_, rfl, hs.setBlLevel.sendNibble.complete⟩
  | .createChar _ _ => ⟨_, rfl, hs.sendGlyph.sendGlyph.complete⟩
  | .write _ => ⟨_, rfl, hs.send.complete⟩
  | .clearByte | .homeByte | .entryModeSet _ | .displayControl _ | .shift _ | .functionSet _ => ⟨_, rfl, hs.broadcast⟩
  | .setCgram _ _ | .setDdram _ _ | .dataByte _ _ => ⟨_, rfl, hs.send⟩
  | .resetNibble3 | .modeLockNibble2 => ⟨_, rfl, hs.broadcastNibble⟩
  | .outputWord _ _ _ _ => ⟨_, rfl, hs.busWrite⟩

/-- Settles O33: the frame of an instruction, its trace part read as an extension. -/
theorem inputsAndConfigurationKept : Obligations.InputsAndConfigurationKept := by
  intro i s
  obtain ⟨t, ht, frame⟩ := exec_frame i s
  obtain ⟨new, hnew⟩ := frame.trace
  exact ⟨t, new, ht, hnew.symm, frame.cfg, frame.cmdValid, frame.cmdWord, frame.cmdGlyph, frame.request⟩

end Sys2Proof.Machine

/-! PROOFS. What an instruction does, said once. `State.after s i` is the state after instruction i: a code-free
sequence has run on the bus, the lifecycle table has been applied to the registers, and a command has ended.
`exec_eq_after` says that this is the instruction's meaning; what is claimed of an instruction is then claimed of that
state. -/

namespace Sys2Proof.Machine

/-! ## The result of an instruction -/

/-- One partition's share of `createChar` (43_backlight_glyph_write.md R141). -/
def glyphShape (c : Config) (bl : Bool) (slot : Byte) (bitmap : Bitmap) (p : Partition) : List Shape :=
  byteShape c bl (setCgramByte (slotIndex slot)) false p ++ dataShape c bl p (bitmapRows bitmap)

/-- The sequence of an instruction, up to the end of the command, from all it depends on: the configuration, the
backlight bit, ENTRY, DISPCTL and PART (41_init.md, 42_display_commands.md, 43_backlight_glyph_write.md; for the forms
the block sends, assumption 12). -/
def bodyShape (c : Config) (bl : Bool) (e : BitVec 2) (d : BitVec 3) (part : Partition) : Instr → List Shape
  | .begin _ rows =>
    [.busBegin] ++ nibbleToBoth c bl 0x3 ++ [.wait c.tInit1] ++ nibbleToBoth c bl 0x3 ++ [.wait c.tInit2] ++
      nibbleToBoth c bl 0x3 ++ [.wait c.tInit3] ++ nibbleToBoth c bl 0x2 ++
      byteToBoth c bl (c.functionSetByte (twoLines rows)) ++ byteToBoth c bl (displayControlByte (d ||| 0b100)) ++
      byteToBoth c bl 0x01 ++ [.wait c.tClear] ++ byteToBoth c bl (entryModeByte (e ||| 0b10))
  | .init | .clear => byteToBoth c bl 0x01 ++ [.wait c.tClear]
  | .home => byteToBoth c bl 0x02 ++ [.wait c.tHome]
  | .setCursor col row =>
    match cursorTarget col row with
    | none => []
    | some (p, v) => byteShape c bl v false p
  | .cursor => byteToBoth c bl (displayControlByte (d ||| 0b010))
  | .noCursor => byteToBoth c bl (displayControlByte (d &&& 0b101))
  | .blink => byteToBoth c bl (displayControlByte (d ||| 0b001))
  | .noBlink => byteToBoth c bl (displayControlByte (d &&& 0b110))
  | .display => byteToBoth c bl (displayControlByte (d ||| 0b100))
  | .noDisplay => byteToBoth c bl (displayControlByte (d &&& 0b011))
  | .scrollDisplayLeft => byteToBoth c bl (shiftByte false)
  | .scrollDisplayRight => byteToBoth c bl (shiftByte true)
  | .leftToRight => byteToBoth c bl (entryModeByte (e ||| 0b10))
  | .rightToLeft => byteToBoth c bl (entryModeByte (e &&& 0b01))
  | .autoscroll => byteToBoth c bl (entryModeByte (e ||| 0b01))
  | .noAutoscroll => byteToBoth c bl (entryModeByte (e &&& 0b10))
  | .setBacklight level => strobeShape c (level != 0) 0x0 false .none
  | .createChar slot bitmap => glyphShape c bl slot bitmap .top ++ glyphShape c bl slot bitmap .bottom
  | .write ch => byteShape c bl ch true part
  | .clearByte => byteToBoth c bl 0x01
  | .homeByte => byteToBoth c bl 0x02
  | .entryModeSet flags => byteToBoth c bl (entryModeByte flags)
  | .displayControl flags => byteToBoth c bl (displayControlByte flags)
  | .shift right => byteToBoth c bl (shiftByte right)
  | .functionSet lines2 => byteToBoth c bl (c.functionSetByte lines2)
  | .setCgram p k => byteShape c bl (setCgramByte k) false p
  | .setDdram p a => byteShape c bl (setDdramByte a) false p
  | .resetNibble3 => nibbleToBoth c bl 0x3
  | .modeLockNibble2 => nibbleToBoth c bl 0x2
  | .dataByte p v => byteShape c bl v true p
  | .outputWord n isData p backlight => [.word (c.packLines n isData p backlight)]

/-- The command that the `Done` event of an instruction names; a form the block sends ends no command. -/
def endOp : Instr → Option Op
  | .begin _ _ => some .begin
  | .init | .clear => some .clear
  | .home => some .home
  | .setCursor _ _ => some .setCursor
  | .cursor => some .cursor
  | .noCursor => some .noCursor
  | .blink => some .blink
  | .noBlink => some .noBlink
  | .display => some .display
  | .noDisplay => some .noDisplay
  | .scrollDisplayLeft => some .scrollDisplayLeft
  | .scrollDisplayRight => some .scrollDisplayRight
  | .leftToRight => some .leftToRight
  | .rightToLeft => some .rightToLeft
  | .autoscroll => some .autoscroll
  | .noAutoscroll => some .noAutoscroll
  | .setBacklight _ => some .setBacklight
  | .createChar _ _ => some .createChar
  | .write _ => some .write
  | .clearByte | .homeByte | .entryModeSet _ | .displayControl _ | .shift _ | .functionSet _ | .setCgram _ _
    | .setDdram _ _ | .resetNibble3 | .modeLockNibble2 | .dataByte _ _ | .outputWord _ _ _ _ => none

/-- The STATUS a command ends with: only the row check of `setCursor` fails one (60_exceptions.md R150). -/
def endStatus : Instr → Status
  | .setCursor _ row => if rowOk row then .ok else .invalidArgument
  | _ => .ok

/-- The RESULT a command ends with: only `write` answers 1 (10_state.md R19). -/
def endResult : Instr → Byte
  | .write _ => 1
  | _ => 0

/-- The `Done` event of a command, as a sequence. -/
def doneShape (i : Instr) : List Shape :=
  match endOp i with
  | some op => [.done op (endStatus i) (endResult i)]
  | none => []

/-- All that instruction i issues in state s. -/
def State.shape (s : State) (i : Instr) : List Shape :=
  bodyShape s.cfg s.backlight s.entry s.dispctl s.part i ++ doneShape i

/-- The registers that instruction i writes, by the lifecycle table (10_state.md R23). -/
def State.writeRegisters (s : State) (i : Instr) : State :=
  { s with
    blLevel := (registersAfter s.registers i).blLevel
    rows := (registersAfter s.registers i).rows
    entry := (registersAfter s.registers i).entry
    dispctl := (registersAfter s.registers i).dispctl
    part := (registersAfter s.registers i).part }

/-- The state after instruction i: its sequence has run, a command has ended, and its registers are written. -/
def State.after (s : State) (i : Instr) : State :=
  State.writeRegisters
    { s.emit (s.shape i) with
      busy := if isCommand i then false else s.busy
      status := if isCommand i then endStatus i else s.status
      result := if isCommand i then endResult i else s.result } i

/-- The row check of `setCursor`, in the three tables that make it: the Row Map (10_state.md R18), the lifecycle table
(R23) and the number of rows. -/
theorem setCursor_cases (col row : Byte) :
    (∃ p v, cursorTarget col row = some (p, v) ∧ (p = .top ∨ p = .bottom) ∧
      (∀ r, registersAfter r (.setCursor col row) = { r with part := p }) ∧ rowOk row = true) ∨
    (cursorTarget col row = none ∧ (∀ r, registersAfter r (.setCursor col row) = r) ∧ rowOk row = false) := by
  simp only [cursorTarget, rowMap, registersAfter, rowOk]
  match row.toNat with
  | 0 | 1 => exact .inl ⟨_, _, rfl, .inl rfl, fun _ => rfl, rfl⟩
  | 2 | 3 => exact .inl ⟨_, _, rfl, .inr rfl, fun _ => rfl, rfl⟩
  | n + 4 => exact .inr ⟨rfl, fun _ => rfl, decide_eq_false (by omega)⟩

/-- An instruction ends a command exactly when it is one (30_encoding.md R67). -/
theorem endOp_isSome (i : Instr) : (endOp i).isSome = isCommand i := by cases i <;> rfl

theorem isCommand_of_endOp {i : Instr} {op : Op} (h : endOp i = some op) : isCommand i = true := by
  rw [← endOp_isSome, h, Option.isSome_some]

theorem doneShape_of_form {i : Instr} (h : isCommand i = false) : doneShape i = [] := by
  rw [← endOp_isSome, Option.isSome_eq_false_iff, Option.isNone_iff_eq_none] at h
  rw [doneShape, h]

/-- A form the block sends writes no register (assumption 12). -/
theorem registersAfter_of_form (r : Registers) : ∀ {i : Instr}, isCommand i = false → registersAfter r i = r
  | .clearByte, _ | .homeByte, _ | .entryModeSet _, _ | .displayControl _, _ | .shift _, _ | .functionSet _, _
  | .setCgram _ _, _ | .setDdram _ _, _ | .resetNibble3, _ | .modeLockNibble2, _ | .dataByte _ _, _
  | .outputWord _ _ _ _, _ => rfl

/-- Only the row check of `setCursor` fails a command (60_exceptions.md R150). -/
theorem endStatus_eq_invalidArgument_iff (i : Instr) :
    endStatus i = .invalidArgument ↔ ∃ col row, i = .setCursor col row ∧ 4 ≤ row.toNat := by
  cases i with
  | setCursor col row => simp [endStatus, rowOk]
  | _ => simp [endStatus]

/-- No command writes ADDR (10_state.md R12). -/
theorem registersAfter_addr (r : Registers) (i : Instr) : (registersAfter r i).addr = r.addr := by
  cases i with
  | setCursor col row => rcases setCursor_cases col row with ⟨p, v, -, -, h, -⟩ | ⟨-, h, -⟩ <;> rw [h r]
  | _ => rfl

/-- PART is left alone, or names a display half (10_state.md R17). -/
theorem registersAfter_part (r : Registers) (i : Instr) :
    (registersAfter r i).part = r.part ∨ (registersAfter r i).part = .top ∨ (registersAfter r i).part = .bottom := by
  cases i with
  | home => exact .inr (.inl rfl)
  | setCursor col row =>
    rcases setCursor_cases col row with ⟨p, v, -, hp, h, -⟩ | ⟨-, h, -⟩ <;> rw [h r]
    · exact .inr hp
    · exact .inl rfl
  | _ => exact .inl rfl

section After

variable (s : State) (i : Instr)

@[simp] theorem State.after_cfg : (s.after i).cfg = s.cfg := rfl
@[simp] theorem State.after_addr : (s.after i).addr = s.addr := rfl
@[simp] theorem State.after_part : (s.after i).part = (registersAfter s.registers i).part := rfl
@[simp] theorem State.after_busy : (s.after i).busy = if isCommand i then false else s.busy := rfl
@[simp] theorem State.after_status : (s.after i).status = if isCommand i then endStatus i else s.status := rfl
@[simp] theorem State.after_result : (s.after i).result = if isCommand i then endResult i else s.result := rfl
@[simp] theorem State.after_port :
    (s.after i).port = portRun s.codeAt s.latchAt 0 s.port (shapeWords (s.shape i)) := rfl
@[simp] theorem State.after_trace :
    (s.after i).trace = s.trace ++ annotate s.addr s.codeAt 0 (s.shape i) := rfl

@[simp] theorem State.after_registers : (s.after i).registers = registersAfter s.registers i :=
  congrArg (fun a => { registersAfter s.registers i with addr := a }) (registersAfter_addr s.registers i).symm

end After

/-! ## Every instruction's result -/

theorem State.writeRegisters_of_eq {s : State} {i : Instr} (h : registersAfter s.registers i = s.registers) :
    s.writeRegisters i = s := by
  rw [State.writeRegisters, h]
  rfl

theorem State.writeRegisters_begin (s : State) (cols rows : Byte) :
    s.writeRegisters (.begin cols rows) =
      ((s.setRows rows).setDispctl (s.dispctl ||| 0b100)).setEntry (s.entry ||| 0b10) := rfl

theorem State.writeRegisters_setCursor {s : State} {col row : Byte} {p : Partition}
    (h : registersAfter s.registers (.setCursor col row) = { s.registers with part := p }) :
    s.writeRegisters (.setCursor col row) = s.setPart p := by
  rw [State.writeRegisters, h]
  rfl

/-- After a form the block sends. -/
theorem State.emit_eq_after (s : State) {i : Instr} {sh : List Shape} (h : isCommand i = false)
    (hsh : bodyShape s.cfg s.backlight s.entry s.dispctl s.part i = sh) : s.emit sh = s.after i := by
  rw [State.after, State.shape, hsh, doneShape_of_form h, List.append_nil, h,
    State.writeRegisters_of_eq (registersAfter_of_form _ h)]
  rfl

/-- After a command. -/
theorem State.writeRegisters_eq_after (s : State) {i : Instr} {sh : List Shape} {op : Op} (h : endOp i = some op)
    (hsh : bodyShape s.cfg s.backlight s.entry s.dispctl s.part i = sh) :
    (s.afterCommand sh op (endStatus i) (endResult i)).writeRegisters i = s.after i := by
  rw [State.after, State.shape, hsh, doneShape, h, isCommand_of_endOp h]
  rfl

/-- The whole-glyph transfer of `createChar` to one partition is an emission. -/
theorem State.sendGlyph_eq_emit (s : State) (slot : Byte) (bitmap : Bitmap) (p : Partition) :
    s.sendGlyph slot bitmap p = s.emit (glyphShape s.cfg s.backlight slot bitmap p) := by
  simp [State.sendGlyph, State.send_eq_emit, State.sendRows_eq_emit, glyphShape]

theorem State.clearDisplay_eq_emit (s : State) :
    s.clearDisplay = s.emit (byteToBoth s.cfg s.backlight 0x01 ++ [.wait s.cfg.tClear]) := by
  simp [State.clearDisplay, State.broadcast_eq_emit, State.delay_eq_emit]

theorem State.clearDisplay_complete (s : State) (op : Op) (r : Byte) :
    s.clearDisplay.complete op r =
      s.afterCommand (byteToBoth s.cfg s.backlight 0x01 ++ [.wait s.cfg.tClear]) op .ok r := by
  rw [State.clearDisplay_eq_emit, State.complete_emit]

theorem State.send_complete (s : State) (v : Byte) (isData : Bool) (p : Partition) (op : Op) (r : Byte) :
    (s.send v isData p).complete op r = s.afterCommand (byteShape s.cfg s.backlight v isData p) op .ok r := by
  rw [State.send_eq_emit, State.complete_emit]

theorem State.broadcast_complete (s : State) (v : Byte) (op : Op) (r : Byte) :
    (s.broadcast v).complete op r = s.afterCommand (byteToBoth s.cfg s.backlight v) op .ok r := by
  rw [State.broadcast_eq_emit, State.complete_emit]

theorem State.putDispctl_complete (s : State) (d : BitVec 3) (op : Op) (r : Byte) :
    (s.putDispctl d).complete op r =
      (s.afterCommand (byteToBoth s.cfg s.backlight (displayControlByte d)) op .ok r).setDispctl d := by
  simp [State.putDispctl, State.broadcast_eq_emit, State.complete_emit]

theorem State.putEntry_complete (s : State) (e : BitVec 2) (op : Op) (r : Byte) :
    (s.putEntry e).complete op r =
      (s.afterCommand (byteToBoth s.cfg s.backlight (entryModeByte e)) op .ok r).setEntry e := by
  simp [State.putEntry, State.broadcast_eq_emit, State.complete_emit]

theorem exec_home_eq_after (s : State) : exec .home s = .next (s.after .home) := by
  simp only [exec, execHome, State.broadcast_eq_emit, State.delay_eq_emit, State.emit_emit, State.complete_setPart,
    State.complete_emit]
  rfl

theorem exec_setBacklight_eq_after (level : Byte) (s : State) :
    exec (.setBacklight level) s = .next (s.after (.setBacklight level)) := by
  simp only [exec, execSetBacklight, State.sendNibble_eq_emit, State.emit_setBlLevel, State.complete_setBlLevel,
    State.complete_emit]
  rfl

theorem exec_createChar_eq_after (slot : Byte) (bitmap : Bitmap) (s : State) :
    exec (.createChar slot bitmap) s = .next (s.after (.createChar slot bitmap)) := by
  simp only [exec, execCreateChar, State.sendGlyph_eq_emit, State.emit_emit, State.emit_cfg, State.emit_backlight,
    State.complete_emit]
  rfl

theorem exec_begin_eq_after (cols rows : Byte) (s : State) :
    exec (.begin cols rows) s = .next (s.after (.begin cols rows)) := by
  simp only [exec, execBegin, State.bringUp, State.resetStep, State.displayOn, State.clearDisplay, State.setLeftToRight,
    State.putDispctl, State.putEntry, State.broadcast_eq_emit, State.broadcastNibble_eq_emit, State.delay_eq_emit,
    State.busBegin_eq_emit]
  simp only [State.emit_emit, State.emit_setRows, State.emit_setDispctl, State.emit_setEntry, State.emit_cfg,
    State.setRows_cfg, State.setDispctl_cfg, State.setEntry_cfg, State.emit_backlight, State.setRows_backlight,
    State.setDispctl_backlight, State.setEntry_backlight, State.emit_dispctl, State.emit_entry, State.setRows_rows,
    State.setRows_dispctl, State.setRows_entry, State.setDispctl_entry, State.complete_setRows,
    State.complete_setDispctl, State.complete_setEntry, State.complete_emit]
  rw [← s.writeRegisters_eq_after (i := .begin cols rows) rfl rfl, State.writeRegisters_begin]
  simp only [bodyShape, endStatus, endResult, State.afterCommand_dispctl, State.afterCommand_entry]

theorem exec_setCursor_eq_after (col row : Byte) (s : State) :
    exec (.setCursor col row) s = .next (s.after (.setCursor col row)) := by
  rw [← s.writeRegisters_eq_after (i := .setCursor col row) rfl rfl]
  rcases setCursor_cases col row with ⟨p, v, ht, -, hr, hok⟩ | ⟨ht, hr, hok⟩
  · rw [State.writeRegisters_setCursor (hr _)]
    simp only [exec, execSetCursor, bodyShape, endStatus, hok, ht, State.send_complete]
    rfl
  · rw [State.writeRegisters_of_eq (hr _)]
    simp only [exec, execSetCursor, bodyShape, endStatus, hok, ht, State.raiseInvalidArgument_eq]
    rfl

/-- Every instruction completes, in the state `State.after` says. -/
theorem exec_eq_after (i : Instr) (s : State) : exec i s = .next (s.after i) :=
  match i with
  | .begin cols rows => exec_begin_eq_after cols rows s
  | .init | .clear => congrArg Host.Outcome.next (s.clearDisplay_complete _ _)
  | .home => exec_home_eq_after s
  | .setCursor col row => exec_setCursor_eq_after col row s
  | .display | .noDisplay | .cursor | .noCursor | .blink | .noBlink =>
    congrArg Host.Outcome.next (s.putDispctl_complete _ _ _)
  | .scrollDisplayLeft | .scrollDisplayRight => congrArg Host.Outcome.next (s.broadcast_complete _ _ _)
  | .leftToRight | .rightToLeft | .autoscroll | .noAutoscroll =>
    congrArg Host.Outcome.next (s.putEntry_complete _ _ _)
  | .setBacklight level => exec_setBacklight_eq_after level s
  | .createChar slot bitmap => exec_createChar_eq_after slot bitmap s
  | .write _ => congrArg Host.Outcome.next (s.send_complete _ _ _ _ _)
  | .clearByte | .homeByte | .entryModeSet _ | .displayControl _ | .shift _ | .functionSet _ =>
    congrArg Host.Outcome.next ((s.broadcast_eq_emit _).trans (s.emit_eq_after rfl rfl))
  | .setCgram _ _ | .setDdram _ _ | .dataByte _ _ =>
    congrArg Host.Outcome.next ((s.send_eq_emit _ _ _).trans (s.emit_eq_after rfl rfl))
  | .resetNibble3 | .modeLockNibble2 =>
    congrArg Host.Outcome.next ((s.broadcastNibble_eq_emit _).trans (s.emit_eq_after rfl rfl))
  | .outputWord _ _ _ _ => congrArg Host.Outcome.next ((s.busWrite_eq_emit _).trans (s.emit_eq_after rfl rfl))

/-- Where a step's next state comes from: nothing happened, or an instruction ran once it was taken. -/
theorem step_eq_after {s t : State} (h : step s = .next t) :
    t = s ∨ ∃ i, t = s.takeRequest.after i ∨ t = s.accept.after i := by
  rcases step_cases h with rfl | ⟨_, i, -, -, h⟩ | ⟨-, i, -, h⟩
  · exact .inl rfl
  · rw [exec_eq_after] at h
    injection h with h
    exact .inr ⟨i, .inl h.symm⟩
  · rw [exec_eq_after] at h
    injection h with h
    exact .inr ⟨i, .inr h.symm⟩

end Sys2Proof.Machine

/-! PROOFS. The discipline of the trace (`traceOk`): it is kept by appending, and the trace of a sequence keeps it when
no word of the sequence raises both enable lines, which holds of the words of every instruction. -/

namespace Sys2Proof.Machine

/-! ## Traces -/

section Traces

variable {c : Config} {a : BitVec 7}

/-- A write goes to ADDR with one enable at most, and its report, if it failed, comes next (60_exceptions.md R153). -/
theorem traceOk_write_iff {b : BitVec 7} {w code : Byte} {rest : List Event} :
    traceOk c a (.write b w code :: rest) ↔
      b = a ∧ oneEnable c w ∧ ∃ tail, rest = reportEvents code ++ tail ∧ traceOk c a tail := by
  by_cases hc : code = 0#8
  · subst hc
    cases rest with
    | nil => simp [traceOk, reportEvents]
    | cons e rest => cases e <;> simp [traceOk, reportEvents]
  · cases rest with
    | nil => simp [traceOk, reportEvents, hc]
    | cons e rest => cases e <;> simp [traceOk, reportEvents, hc, eq_comm]

theorem traceOk_append {new : List Event} (hnew : traceOk c a new) :
    ∀ old : List Event, traceOk c a old → traceOk c a (old ++ new)
  | [], _ => hnew
  | .busBegin :: rest, h => traceOk_append hnew rest h
  | .delay _ :: rest, h => traceOk_append hnew rest h
  | .done _ _ _ :: rest, h => traceOk_append hnew rest h
  | .write b w code :: rest, h => by
    obtain ⟨hb, hw, tail, hrest, htail⟩ := traceOk_write_iff.mp h
    rw [hrest, List.cons_append, List.append_assoc]
    exact traceOk_write_iff.mpr ⟨hb, hw, _, rfl, traceOk_append hnew tail htail⟩
termination_by old => old.length
decreasing_by
  · simp
  · simp
  · simp
  · simp [hrest]

/-- No word of a sequence raises both enable lines (30_encoding.md R52). -/
def OneEnable (c : Config) (sh : List Shape) : Prop := ∀ w ∈ shapeWords sh, oneEnable c w

theorem traceOk_annotate {code : Nat → Byte} {sh : List Shape} {k : Nat} (h : OneEnable c sh) :
    traceOk c a (annotate a code k sh) := by
  induction sh generalizing k with
  | nil => trivial
  | cons x sh ih =>
    cases x with
    | word w =>
      obtain ⟨hw, hsh⟩ := List.forall_mem_cons.mp h
      exact traceOk_write_iff.mpr ⟨rfl, hw, _, rfl, ih hsh⟩
    | busBegin => exact ih h
    | wait t => exact ih h
    | done op st r => exact ih h

end Traces

/-! ## Words -/

theorem oneHotLow_and_eq_zero {m m' : Byte} (h : oneHotLow m) (h' : oneHotLow m') (hne : m ≠ m') : m &&& m' = 0 := by
  rcases h with rfl | rfl | rfl | rfl <;> rcases h' with rfl | rfl | rfl | rfl <;> revert hne <;> decide

theorem nibble_and_oneHotLow (n : Nibble) {m : Byte} (h : oneHotLow m) : (n.setWidth 8 <<< 4) &&& m = 0 := by
  rcases h with rfl | rfl | rfl | rfl <;> revert n <;> decide

/-- A line that is none of the packed word's is low in it. -/
theorem packLines_and_eq_zero {c : Config} {m : Byte} {p : Partition} (n : Nibble) (isData bl : Bool)
    (hm : oneHotLow m) (hrs : c.rsMask &&& m = 0) (hen : c.enable p &&& m = 0) (hbl : c.blMask &&& m = 0) :
    c.packLines n isData p bl &&& m = 0 := by
  have line (b : Bool) {l : Byte} (hl : l &&& m = 0) : (if b then l else 0) &&& m = 0 := by
    split
    · exact hl
    · exact BitVec.zero_and
  simp only [Config.packLines, BitVec.and_or_distrib_right, nibble_and_oneHotLow n hm, line isData hrs, hen,
    line bl hbl]
  rfl

theorem oneEnable_packLines {c : Config} (h : c.MasksOk) (n : Nibble) (isData : Bool) (p : Partition) (bl : Bool) :
    oneEnable c (c.packLines n isData p bl) := by
  obtain ⟨⟨rs, top, bot, line⟩, ⟨rs_top, rs_bot, -, top_bot, top_bl, bot_bl⟩, -⟩ := h
  have hrs := oneHotLow_and_eq_zero rs top rs_top
  have hbl := oneHotLow_and_eq_zero line top top_bl.symm
  cases p with
  | none => exact .inl (packLines_and_eq_zero n isData bl top hrs BitVec.zero_and hbl)
  | bottom =>
    have hen := oneHotLow_and_eq_zero bot top top_bot.symm
    exact .inl (packLines_and_eq_zero n isData bl top hrs hen hbl)
  | top =>
    have hrs := oneHotLow_and_eq_zero rs bot rs_bot
    have hen := oneHotLow_and_eq_zero top bot top_bot
    have hbl := oneHotLow_and_eq_zero line bot bot_bl.symm
    exact .inr (packLines_and_eq_zero n isData bl bot hrs hen hbl)

/-- The released word of a strobe pair raises neither (30_encoding.md R53). -/
theorem oneEnable_release (c : Config) (w : Byte) : oneEnable c (w &&& ~~~(c.enTopMask ||| c.enBotMask)) := by
  left
  ext i
  simp +contextual

/-! ## Sequences -/

section Sequences

variable {c : Config}

theorem oneEnable_word_cons {w : Byte} {sh : List Shape} :
    OneEnable c (.word w :: sh) ↔ oneEnable c w ∧ OneEnable c sh := List.forall_mem_cons

@[simp] theorem oneEnable_nil : OneEnable c [] := nofun

@[simp] theorem oneEnable_busBegin_cons {sh : List Shape} : OneEnable c (.busBegin :: sh) ↔ OneEnable c sh := Iff.rfl

@[simp] theorem oneEnable_wait_cons {t : Nat} {sh : List Shape} :
    OneEnable c (.wait t :: sh) ↔ OneEnable c sh := Iff.rfl

@[simp] theorem oneEnable_done_cons {op : Op} {st : Status} {r : Byte} {sh : List Shape} :
    OneEnable c (.done op st r :: sh) ↔ OneEnable c sh := Iff.rfl

@[simp] theorem oneEnable_append {a b : List Shape} : OneEnable c (a ++ b) ↔ OneEnable c a ∧ OneEnable c b := by
  simp only [OneEnable, shapeWords_append, List.forall_mem_append]

@[simp] theorem oneEnable_doneShape (i : Instr) : OneEnable c (doneShape i) := by
  unfold doneShape
  split <;> simp

variable (h : c.MasksOk) (bl : Bool)
include h

theorem oneEnable_strobeShape (n : Nibble) (isData : Bool) (p : Partition) :
    OneEnable c (strobeShape c bl n isData p) :=
  oneEnable_word_cons.mpr
    ⟨oneEnable_packLines h n isData p bl, oneEnable_word_cons.mpr ⟨oneEnable_release c _, oneEnable_nil⟩⟩

theorem oneEnable_byteShape (v : Byte) (isData : Bool) (p : Partition) : OneEnable c (byteShape c bl v isData p) :=
  oneEnable_append.mpr ⟨oneEnable_strobeShape h bl _ isData p, oneEnable_strobeShape h bl _ isData p⟩

theorem oneEnable_nibbleToBoth (n : Nibble) : OneEnable c (nibbleToBoth c bl n) :=
  oneEnable_append.mpr ⟨oneEnable_strobeShape h bl n false .top, oneEnable_strobeShape h bl n false .bottom⟩

theorem oneEnable_byteToBoth (v : Byte) : OneEnable c (byteToBoth c bl v) :=
  oneEnable_append.mpr ⟨oneEnable_byteShape h bl v false .top, oneEnable_byteShape h bl v false .bottom⟩

theorem oneEnable_dataShape (p : Partition) (vs : List Byte) : OneEnable c (dataShape c bl p vs) := by
  induction vs with
  | nil => exact oneEnable_nil
  | cons v vs ih => exact oneEnable_append.mpr ⟨oneEnable_byteShape h bl v true p, ih⟩

theorem oneEnable_glyphShape (slot : Byte) (bitmap : Bitmap) (p : Partition) :
    OneEnable c (glyphShape c bl slot bitmap p) :=
  oneEnable_append.mpr ⟨oneEnable_byteShape h bl _ false p, oneEnable_dataShape h bl p _⟩

theorem oneEnable_bodyShape (e : BitVec 2) (d : BitVec 3) (part : Partition) (i : Instr) :
    OneEnable c (bodyShape c bl e d part i) := by
  cases i with
  | begin => simp [bodyShape, oneEnable_nibbleToBoth h, oneEnable_byteToBoth h]
  | init | clear | home => simp [bodyShape, oneEnable_byteToBoth h]
  | setCursor col row =>
    simp only [bodyShape]
    split
    · exact oneEnable_nil
    · exact oneEnable_byteShape h bl _ false _
  | setBacklight level => exact oneEnable_strobeShape h _ _ _ _
  | createChar slot bitmap =>
    exact oneEnable_append.mpr
      ⟨oneEnable_glyphShape h bl slot bitmap .top, oneEnable_glyphShape h bl slot bitmap .bottom⟩
  | write | setCgram | setDdram | dataByte => exact oneEnable_byteShape h bl _ _ _
  | resetNibble3 | modeLockNibble2 => exact oneEnable_nibbleToBoth h bl _
  | outputWord n isData p backlight =>
    exact oneEnable_word_cons.mpr ⟨oneEnable_packLines h n isData p backlight, oneEnable_nil⟩
  | _ => exact oneEnable_byteToBoth h bl _

end Sequences

/-! ## The invariant of a state -/

/-- Taking a command or a transfer touches nothing the invariant speaks of. -/
theorem State.Inv.takeRequest {s : State} (h : s.Inv) : s.takeRequest.Inv := h

theorem State.Inv.accept {s : State} (h : s.Inv) : s.accept.Inv := h

theorem endResult_eq_zero_or_one (i : Instr) : endResult i = 0 ∨ endResult i = 1 := by
  unfold endResult
  split
  · exact .inr rfl
  · exact .inl rfl

/-- A failed command's RESULT is 0 (60_exceptions.md R151). -/
theorem endResult_of_invalidArgument {i : Instr} (h : endStatus i = .invalidArgument) : endResult i = 0 := by
  obtain ⟨col, row, rfl, -⟩ := (endStatus_eq_invalidArgument_iff i).mp h
  rfl

theorem State.Inv.after {s : State} (h : s.Inv) (i : Instr) : (s.after i).Inv := by
  obtain ⟨hcfg, htrace, hresult, hfail⟩ := h
  have hwords : OneEnable s.cfg (s.shape i) :=
    oneEnable_append.mpr ⟨oneEnable_bodyShape hcfg.1 _ _ _ _ i, oneEnable_doneShape i⟩
  refine ⟨hcfg, traceOk_append (traceOk_annotate hwords) _ htrace, ?_⟩
  cases hc : isCommand i with
  | true =>
    simp only [State.after_result, State.after_status, hc, if_true]
    exact ⟨endResult_eq_zero_or_one i, endResult_of_invalidArgument⟩
  | false =>
    simp only [State.after_result, State.after_status, hc, Bool.false_eq_true, if_false]
    exact ⟨hresult, hfail⟩

/-- Settles O43: a step's next state is the old one, or the state after an instruction that was taken in it. -/
theorem stepKeepsTheInvariant : Obligations.StepKeepsTheInvariant := by
  intro s t hs hstep
  rcases step_eq_after hstep with rfl | ⟨i, rfl | rfl⟩
  · exact hs
  · exact hs.takeRequest.after i
  · exact hs.accept.after i

end Sys2Proof.Machine

/-! PROOFS. The registers, STATUS, RESULT and PORT after an instruction and after a step, and which registers an
instruction does not read. -/

namespace Sys2Proof.Machine

/-! ## Registers and the end of a command -/

/-- Settles O32: the registers of `State.after` are those of the table. -/
theorem registersFollowTheLifecycleTable : Obligations.RegistersFollowTheLifecycleTable :=
  fun i s _ => ⟨s.after i, exec_eq_after i s, s.after_registers i⟩

/-- The last event of a command is its `Done`. -/
theorem State.after_getLast? (s : State) {i : Instr} {op : Op} (h : endOp i = some op) :
    (s.after i).trace.getLast? = some (.done op (endStatus i) (endResult i)) := by
  rw [State.after_trace, State.shape, annotate_append, doneShape, h]
  simp [annotate]

/-- Settles O35: the three fields are read off `State.after`, its last event off the sequence. -/
theorem statusAndResultAtTheEnd : Obligations.StatusAndResultAtTheEnd := by
  intro i s
  refine ⟨s.after i, exec_eq_after i s, fun hc => ?_, fun hc => by simp [hc]⟩
  have hstatus : (s.after i).status = endStatus i := if_pos hc
  have hresult : (s.after i).result = endResult i := if_pos hc
  obtain ⟨op, hop⟩ := Option.isSome_iff_exists.mp ((endOp_isSome i).trans hc)
  rw [hstatus, hresult]
  exact ⟨if_pos hc, endStatus_eq_invalidArgument_iff i, by cases i <;> rfl, op, s.after_getLast? hop⟩

/-- Settles O46: the lifecycle table has no NONE to write. -/
theorem stepNeverWritesNoneIntoPart : Obligations.StepNeverWritesNoneIntoPart := by
  intro s t hstep
  rcases step_eq_after hstep with rfl | ⟨i, rfl | rfl⟩
  · exact .inl rfl
  · exact registersAfter_part s.registers i
  · exact registersAfter_part s.registers i

/-- Settles O45: taking an instruction and running it leave both alone. -/
theorem stepKeepsAddressAndConfiguration : Obligations.StepKeepsAddressAndConfiguration := by
  intro s t hstep
  rcases step_eq_after hstep with rfl | ⟨i, rfl | rfl⟩ <;> exact ⟨rfl, rfl⟩

/-! ## PORT -/

theorem portRun_eq_or_mem (code : Nat → Byte) (latch : Nat → Bool) (k : Nat) (port : Byte) (ws : List Byte) :
    portRun code latch k port ws = port ∨ portRun code latch k port ws ∈ ws := by
  induction ws generalizing k port with
  | nil => exact .inl rfl
  | cons w ws ih =>
    rw [portRun]
    rcases ih (k + 1) (if code k = 0 then w else if latch k then w else port) with h | h
    · rw [h]
      split_ifs <;> simp
    · exact .inr (List.mem_cons_of_mem w h)

theorem portRun_of_success {code : Nat → Byte} {latch : Nat → Bool} {k : Nat} {port : Byte} {ws : List Byte}
    (h : ∀ j, j < ws.length → code (k + j) = 0) : portRun code latch k port ws = ws.getLastD port := by
  induction ws generalizing k port with
  | nil => rfl
  | cons w ws ih =>
    have hw : code k = 0 := h 0 (Nat.succ_pos _)
    have hws (j : Nat) (hj : j < ws.length) : code (k + 1 + j) = 0 := by
      rw [Nat.add_assoc, Nat.add_comm 1]
      exact h (j + 1) (Nat.succ_lt_succ hj)
    rw [portRun, if_pos hw, ih hws, List.getLastD_cons]

/-- Settles O42: PORT after a sequence is a fold of its words over the old value. -/
theorem portHoldsOldValueOrAWordWritten : Obligations.PortHoldsOldValueOrAWordWritten := by
  intro i s
  refine ⟨s.after i, s.shape i, exec_eq_after i s, s.after_trace i, ?_⟩
  rw [State.after_port]
  exact ⟨portRun_eq_or_mem .., fun h => portRun_of_success fun j hj => by rw [Nat.zero_add]; exact h j hj⟩

/-! ## Registers that are not read -/

/-- Two states that the bus sees alike: all that the events of a sequence and PORT after it depend on. -/
structure State.SameBus (s s' : State) : Prop where
  addr : s'.addr = s.addr
  port : s'.port = s.port
  answers : s'.answers = s.answers
  nWrites : s'.nWrites = s.nWrites
  trace : s'.trace = s.trace

/-- The same sequence on the same bus gives the same trace and the same PORT. -/
theorem State.SameBus.exec_output {s s' : State} {i : Instr} (h : s.SameBus s') (hsh : s'.shape i = s.shape i) :
    ∃ t t', exec i s = .next t ∧ exec i s' = .next t' ∧ t'.trace = t.trace ∧ t'.port = t.port := by
  have hcode : s'.codeAt = s.codeAt := by funext k; simp [State.codeAt, h.answers, h.nWrites]
  have hlatch : s'.latchAt = s.latchAt := by funext k; simp [State.latchAt, h.nWrites]
  refine ⟨s.after i, s'.after i, exec_eq_after i s, exec_eq_after i s', ?_, ?_⟩
  · rw [State.after_trace, State.after_trace, hsh, hcode, h.addr, h.trace]
  · rw [State.after_port, State.after_port, hsh, hcode, hlatch, h.port]

/-- Settles O47: of the sequences only that of `write` is made from PART. -/
theorem onlyWriteReadsPart : Obligations.OnlyWriteReadsPart := by
  intro i s p hi
  have hsh : State.shape { s with part := p } i = s.shape i := by
    cases i with
    | write ch => exact absurd rfl (hi ch)
    | _ => rfl
  exact State.SameBus.exec_output ⟨rfl, rfl, rfl, rfl, rfl⟩ hsh

/-- Settles O48: sequences are made from the backlight bit, which every non-zero level sets. -/
theorem nonzeroLevelsAreIndistinguishable : Obligations.NonzeroLevelsAreIndistinguishable := by
  intro i s level hs hlevel
  have hbit : State.backlight { s with blLevel := level } = s.backlight :=
    (bne_iff_ne.mpr hlevel).trans (bne_iff_ne.mpr hs).symm
  have hsh : State.shape { s with blLevel := level } i = s.shape i := by rw [State.shape, hbit, State.shape]
  exact State.SameBus.exec_output ⟨rfl, rfl, rfl, rfl, rfl⟩ hsh

/-- Settles O49: no sequence is made from ROWS. -/
theorem nothingReadsOldRows : Obligations.NothingReadsOldRows :=
  fun _ _ _ => State.SameBus.exec_output ⟨rfl, rfl, rfl, rfl, rfl⟩ rfl

end Sys2Proof.Machine

/-! PROOFS. The fields of an output word: each control line of a packed word reads back, and a word that raises at most
one enable line is packed from its fields (30_encoding.md R50, R52, R53). -/

namespace Sys2Proof

open Machine (oneHotLow_and_eq_zero nibble_and_oneHotLow releaseWord)

/-! ## Words and lines -/

/-- One line of a word is high or low. -/
theorem and_oneHotLow (w : Byte) {m : Byte} (h : oneHotLow m) : w &&& m = if w &&& m != 0 then m else 0 := by
  rcases h with rfl | rfl | rfl | rfl <;> revert w <;> decide

/-- A word is its nibble in bits 7:4 and its four lines. -/
theorem nibble_or_lines (w : Byte) : ((w.extractLsb' 4 4).setWidth 8 <<< 4) ||| (w &&& 0x0F) = w := by
  revert w
  decide

theorem oneHotLow_ne_zero {m : Byte} (h : oneHotLow m) : m ≠ 0 := by
  rcases h with rfl | rfl | rfl | rfl <;> decide

theorem oneHotLow_nibble {m : Byte} (h : oneHotLow m) : m.extractLsb' 4 4 = 0#4 := by
  rcases h with rfl | rfl | rfl | rfl <;> decide

/-- A field that is m or 0 is raised exactly when its condition holds. -/
theorem ite_bne_zero {m : Byte} (h : oneHotLow m) (P : Prop) [Decidable P] :
    ((if P then m else 0) != 0) = decide P := by
  split
  · simpa [*] using oneHotLow_ne_zero h
  · simp [*]

/-! ## Masks do not meet -/

section Masks

variable {c : Config} (h : c.MasksOk)
include h

theorem Config.MasksOk.oneHotLow_rsMask : oneHotLow c.rsMask := by
  obtain ⟨⟨rs, -⟩, -⟩ := h
  exact rs

theorem Config.MasksOk.oneHotLow_blMask : oneHotLow c.blMask := by
  obtain ⟨⟨-, -, -, bl⟩, -⟩ := h
  exact bl

theorem Config.MasksOk.rsMask_and_blMask : c.rsMask &&& c.blMask = 0 := by
  obtain ⟨⟨rs, -, -, bl⟩, ⟨-, -, rs_bl, -⟩, -⟩ := h
  exact oneHotLow_and_eq_zero rs bl rs_bl

variable {q : Partition} (hq : q.isHalf = true)
include hq

theorem Config.MasksOk.oneHotLow_enable : oneHotLow (c.enable q) := by
  obtain ⟨⟨-, top, bot, -⟩, -⟩ := h
  cases q with
  | none => cases hq
  | top => exact top
  | bottom => exact bot

theorem Config.MasksOk.rsMask_and_enable : c.rsMask &&& c.enable q = 0 := by
  obtain ⟨⟨rs, top, bot, -⟩, ⟨rs_top, rs_bot, -⟩, -⟩ := h
  cases q with
  | none => cases hq
  | top => exact oneHotLow_and_eq_zero rs top rs_top
  | bottom => exact oneHotLow_and_eq_zero rs bot rs_bot

theorem Config.MasksOk.blMask_and_enable : c.blMask &&& c.enable q = 0 := by
  obtain ⟨⟨-, top, bot, bl⟩, ⟨-, -, -, -, top_bl, bot_bl⟩, -⟩ := h
  cases q with
  | none => cases hq
  | top => exact oneHotLow_and_eq_zero bl top top_bl.symm
  | bottom => exact oneHotLow_and_eq_zero bl bot bot_bl.symm

theorem Config.MasksOk.enable_and_enable (p : Partition) :
    c.enable p &&& c.enable q = if p = q then c.enable q else 0 := by
  obtain ⟨⟨-, top, bot, -⟩, ⟨-, -, -, top_bot, -⟩, -⟩ := h
  have apart : c.enTopMask &&& c.enBotMask = 0 := oneHotLow_and_eq_zero top bot top_bot
  cases q with
  | none => cases hq
  | top => cases p <;> simp [Config.enable, apart, BitVec.and_comm c.enBotMask]
  | bottom => cases p <;> simp [Config.enable, apart]

end Masks

/-- A line that meets no half's enable line meets no enable field. -/
theorem Config.enable_and_eq_zero {c : Config} {m : Byte}
    (hm : ∀ {q : Partition}, q.isHalf = true → m &&& c.enable q = 0) (p : Partition) : c.enable p &&& m = 0 := by
  rw [BitVec.and_comm]
  cases p with
  | none => exact BitVec.and_zero
  | top => exact hm rfl
  | bottom => exact hm rfl

/-! ## The fields of a packed word -/

section Fields

variable {c : Config} {n : Nibble} {isData : Bool} {p : Partition} {bl : Bool}

/-- A line of a packed word comes from the three line fields alone. -/
theorem packLines_and_oneHotLow {m : Byte} (hm : oneHotLow m) :
    c.packLines n isData p bl &&& m =
      (if isData then c.rsMask &&& m else 0) ||| (c.enable p &&& m) ||| (if bl then c.blMask &&& m else 0) := by
  rw [Config.packLines, BitVec.and_or_distrib_right, BitVec.and_or_distrib_right, BitVec.and_or_distrib_right,
    nibble_and_oneHotLow n hm]
  cases isData <;> cases bl <;> simp

/-- The enable field is the only one that the partition decides. -/
theorem packLines_eq_or_enable : c.packLines n isData p bl = c.packLines n isData .none bl ||| c.enable p := by
  have hnone : c.enable .none = 0 := rfl
  simp only [Config.packLines, hnone, BitVec.ofNat_eq_ofNat, BitVec.or_zero]
  rw [BitVec.or_assoc, BitVec.or_assoc _ _ (c.enable p), BitVec.or_comm (c.enable p)]

/-- The two enable bits are cleared from the enable field. -/
theorem enable_and_not : c.enable p &&& ~~~(c.enTopMask ||| c.enBotMask) = 0 := by
  cases p <;> ext i <;> simp +contextual [Config.enable]

variable (h : c.MasksOk)
include h

theorem packLines_nibble : (c.packLines n isData p bl).extractLsb' 4 4 = n := by
  obtain ⟨⟨rs, top, bot, line⟩, -⟩ := h
  have field (b : Bool) {m : Byte} (hm : oneHotLow m) : (if b then m else 0#8).extractLsb' 4 4 = 0#4 := by
    split
    · exact oneHotLow_nibble hm
    · rfl
  have hen : (c.enable p).extractLsb' 4 4 = 0#4 := by
    cases p with
    | none => exact field false top
    | top => exact field true top
    | bottom => exact field true bot
  have hn : (n.setWidth 8 <<< 4).extractLsb' 4 4 = n := by revert n; decide
  simp [Config.packLines, BitVec.extractLsb'_or, hn, hen, field _ rs, field _ line]

theorem packLines_and_rsMask : c.packLines n isData p bl &&& c.rsMask = if isData then c.rsMask else 0 := by
  have hen := Config.enable_and_eq_zero h.rsMask_and_enable p
  have hbl : c.blMask &&& c.rsMask = 0 := (BitVec.and_comm ..).trans h.rsMask_and_blMask
  simp [packLines_and_oneHotLow h.oneHotLow_rsMask, hen, hbl]

theorem packLines_and_blMask : c.packLines n isData p bl &&& c.blMask = if bl then c.blMask else 0 := by
  have hen := Config.enable_and_eq_zero h.blMask_and_enable p
  simp [packLines_and_oneHotLow h.oneHotLow_blMask, hen, h.rsMask_and_blMask]

theorem packLines_and_enable {q : Partition} (hq : q.isHalf = true) :
    c.packLines n isData p bl &&& c.enable q = if p = q then c.enable q else 0 := by
  simp [packLines_and_oneHotLow (h.oneHotLow_enable hq), h.rsMask_and_enable hq,
    h.enable_and_enable hq, h.blMask_and_enable hq]

/-- Both lines are low in a word to neither partition, so releasing it changes nothing. -/
theorem packLines_none_and_not :
    c.packLines n isData .none bl &&& ~~~(c.enTopMask ||| c.enBotMask) = c.packLines n isData .none bl := by
  have htop : c.packLines n isData .none bl &&& c.enTopMask = 0 := packLines_and_enable h (q := .top) rfl
  have hbot : c.packLines n isData .none bl &&& c.enBotMask = 0 := packLines_and_enable h (q := .bottom) rfl
  generalize c.packLines n isData .none bl = w at *
  calc w &&& ~~~(c.enTopMask ||| c.enBotMask)
    _ = (w &&& (c.enTopMask ||| c.enBotMask)) ||| (w &&& ~~~(c.enTopMask ||| c.enBotMask)) := by
      rw [BitVec.and_or_distrib_left, htop, hbot]; simp
    _ = w := by rw [← BitVec.and_or_distrib_left, BitVec.or_not_self, BitVec.and_allOnes]

theorem packLines_and_not :
    c.packLines n isData p bl &&& ~~~(c.enTopMask ||| c.enBotMask) = c.packLines n isData .none bl := by
  rw [packLines_eq_or_enable, BitVec.and_or_distrib_right, packLines_none_and_not h, enable_and_not]
  exact BitVec.or_zero

/-! ## The lines of a packed word, as bits -/

theorem packLines_rsMask_bit : (c.packLines n isData p bl &&& c.rsMask != 0) = isData := by
  rw [packLines_and_rsMask h, ite_bne_zero h.oneHotLow_rsMask, Bool.decide_eq_true]

theorem packLines_blMask_bit : (c.packLines n isData p bl &&& c.blMask != 0) = bl := by
  rw [packLines_and_blMask h, ite_bne_zero h.oneHotLow_blMask, Bool.decide_eq_true]

theorem packLines_enable_bit {q : Partition} (hq : q.isHalf = true) :
    (c.packLines n isData p bl &&& c.enable q != 0) = decide (p = q) := by
  rw [packLines_and_enable h hq, ite_bne_zero (h.oneHotLow_enable hq)]

/-- An output word decodes to the fields it was packed from. -/
theorem decodePortWord_packLines :
    decodePortWord c (c.packLines n isData p bl) = .ok (.outputWord n isData p bl) := by
  have htop : (c.packLines n isData p bl &&& c.enTopMask != 0) = decide (p = .top) :=
    packLines_enable_bit h (q := .top) rfl
  have hbot : (c.packLines n isData p bl &&& c.enBotMask != 0) = decide (p = .bottom) :=
    packLines_enable_bit h (q := .bottom) rfl
  rw [decodePortWord, packLines_nibble h, packLines_rsMask_bit h, packLines_blMask_bit h, htop, hbot]
  cases p <;> rfl

end Fields

/-- A word is packed from its fields, when its enable bits are those of a partition. -/
theorem packLines_of_fields {c : Config} (h : c.MasksOk) {w : Byte} {p : Partition}
    (hp : c.enable p = w &&& c.enTopMask ||| w &&& c.enBotMask) :
    c.packLines (w.extractLsb' 4 4) (w &&& c.rsMask != 0) p (w &&& c.blMask != 0) = w := by
  obtain ⟨⟨rs, -, -, line⟩, -, hall⟩ := h
  conv_rhs => rw [← nibble_or_lines w, ← hall]
  simp only [Config.packLines, ← and_oneHotLow w rs, ← and_oneHotLow w line, hp, BitVec.and_or_distrib_left,
    BitVec.or_assoc]

/-- What a word decodes to: its fields, and the partition whose enable bit is the only one raised. -/
theorem decodePortWord_eq_ok {c : Config} {w : Byte} {i : Instr} (hi : decodePortWord c w = .ok i) :
    ∃ p, (w &&& c.enTopMask != 0) = decide (p = .top) ∧ (w &&& c.enBotMask != 0) = decide (p = .bottom) ∧
      i = .outputWord (w.extractLsb' 4 4) (w &&& c.rsMask != 0) p (w &&& c.blMask != 0) := by
  rw [decodePortWord] at hi
  split at hi <;> cases hi
  next ht hb => exact ⟨.none, ht, hb, rfl⟩
  next ht hb => exact ⟨.top, ht, hb, rfl⟩
  next ht hb => exact ⟨.bottom, ht, hb, rfl⟩

/-- An output word that decodes is the encoding of what it decodes to. -/
theorem encode_of_decodePortWord {c : Config} (h : c.MasksOk) {w : Byte} {i : Instr} (hi : decodePortWord c w = .ok i) :
    i.wellFormed = true ∧ encode c i = .request (.portWord w) := by
  obtain ⟨p, ht, hb, rfl⟩ := decodePortWord_eq_ok hi
  obtain ⟨⟨-, top, bot, -⟩, -⟩ := id h
  have hp : c.enable p = w &&& c.enTopMask ||| w &&& c.enBotMask := by
    rw [and_oneHotLow w top, and_oneHotLow w bot, ht, hb]
    cases p <;> simp [Config.enable]
  exact ⟨rfl, congrArg (fun w => Encoded.request (.portWord w)) (packLines_of_fields h hp)⟩

end Sys2Proof

/-! PROOFS. The command word: what each opcode decodes to, and that a command means its used operand fields
(30_encoding.md R68 to R71). -/

namespace Sys2Proof

open Machine (isCommand usesA usesB usedGlyph)

/-- A command's word and side operand decode to it. -/
theorem decode_encode_of_isCommand {c : Config} {i : Instr} (h : isCommand i = true) :
    decode c (encode c i) = .ok i := by
  cases i with
  | clearByte | homeByte | entryModeSet | displayControl | shift | functionSet | setCgram | setDdram | resetNibble3
  | modeLockNibble2 | dataByte | outputWord => cases h
  | _ =>
    simp [encode, plainCommand, decode, decodeCommand, opField_commandWord, aField_commandWord, bField_commandWord,
      bitmapOf_glyphOf]

section Opcode

variable {word : BitVec 21} {glyph : BitVec 64}

/-- Opcodes from 0x14 up reach the decoder's default (R71). -/
theorem decodeCommand_of_reserved (h : 0x14 ≤ (opField word).toNat) :
    decodeCommand word glyph = .error (.reservedOpcode (opField word)) := by
  obtain ⟨n, hn⟩ := Nat.exists_eq_add_of_le' h
  rw [decodeCommand, hn]
  rfl

theorem decodeCommand_of_lt (h : (opField word).toNat < 0x14) : ∃ i, decodeCommand word glyph = .ok i := by
  rw [decodeCommand]
  interval_cases (opField word).toNat <;> exact ⟨_, rfl⟩

/-- A command that decodes is encoded by its opcode and its used fields (R69): in each row the opcode is the row's. -/
theorem encode_of_decodeCommand {c : Config} {i : Instr} (hi : decodeCommand word glyph = .ok i) :
    encode c i = .command (commandWord (opField word) (if usesA i then aField word else 0)
      (if usesB i then bField word else 0)) (usedGlyph glyph i) := by
  rw [decodeCommand] at hi
  have hop : opField word = BitVec.ofNat 5 (opField word).toNat := by simp
  rw [hop]
  split at hi <;> cases hi
  all_goals next h => rw [h]; simp [encode, plainCommand, usesA, usesB, usedGlyph, glyphOf_bitmapOf]

/-- The fields a command does not use are ignored (R70): in each row the decoder reads the used ones alone. -/
theorem decodeCommand_of_used_fields {i : Instr} (hi : decodeCommand word glyph = .ok i) {w : BitVec 21} {g : BitVec 64}
    (hop : opField w = opField word) (ha : usesA i = true → aField w = aField word)
    (hb : usesB i = true → bField w = bField word) (hg : usedGlyph g i = usedGlyph glyph i) :
    decodeCommand w g = .ok i := by
  rw [decodeCommand] at hi
  rw [decodeCommand, hop]
  split at hi <;> cases hi
  all_goals simp_all [usesA, usesB, usedGlyph]

end Opcode

end Sys2Proof

/-! PROOFS. The instruction byte: the decoder told by the range of the byte, each row's byte decoded, and what a byte
that decodes, or does not, is (30_encoding.md R55, R66). -/

namespace Sys2Proof

/-- The position of the highest set bit, as the range of the byte (30_encoding.md R55). -/
theorem extractLsb'_eq_one_iff (v : Byte) {n m : Nat} (h : n + (m + 1) = 8) :
    v.extractLsb' n (m + 1) = 1#(m + 1) ↔ 2 ^ n ≤ v.toNat ∧ v.toNat < 2 ^ (n + 1) := by
  have hlt : v.toNat / 2 ^ n < 2 ^ (m + 1) := by
    rw [Nat.div_lt_iff_lt_mul (Nat.two_pow_pos n), ← Nat.pow_add, Nat.add_comm, h]
    exact v.isLt
  have hone : 1 % 2 ^ (m + 1) = 1 := Nat.mod_eq_of_lt (Nat.one_lt_two_pow (Nat.succ_ne_zero m))
  have hpos := Nat.two_pow_pos n
  rw [← BitVec.toNat_inj, BitVec.extractLsb'_toNat, Nat.shiftRight_eq_div_pow, Nat.mod_eq_of_lt hlt,
    BitVec.toNat_ofNat, hone, Nat.div_eq_iff hpos, Nat.pow_succ]
  omega

theorem entryModeByte_toNat (flags : BitVec 2) : (entryModeByte flags).toNat = 0x04 + flags.toNat := by
  revert flags; decide

theorem displayControlByte_toNat (flags : BitVec 3) : (displayControlByte flags).toNat = 0x08 + flags.toNat := by
  revert flags; decide

theorem setCgramByte_toNat (k : BitVec 3) : (setCgramByte k).toNat = 0x40 + 8 * k.toNat := by
  revert k; decide

theorem setDdramByte_toNat (a : BitVec 7) : (setDdramByte a).toNat = 0x80 + a.toNat := by
  revert a; decide

/-- The decoder of instruction bytes by the range of the byte. -/
theorem decodeInstrByte_eq_ranges (c : Config) (v : Byte) (p : Partition) :
    decodeInstrByte c v p =
      if 0x80 ≤ v.toNat ∧ v.toNat < 0x100 then toHalf p (.setDdram p (v.extractLsb' 0 7))
      else if 0x40 ≤ v.toNat ∧ v.toNat < 0x80 then
        if v.toNat % 8 = 0 then toHalf p (.setCgram p (v.extractLsb' 3 3)) else .error (.byteNeverEmitted v)
      else if 0x20 ≤ v.toNat ∧ v.toNat < 0x40 then
        if v = c.functionSetByte false then .ok (.functionSet false)
        else if v = c.functionSetByte true then .ok (.functionSet true)
        else .error (.byteNeverEmitted v)
      else if v.toNat = 0x18 then .ok (.shift false)
      else if v.toNat = 0x1C then .ok (.shift true)
      else if 0x08 ≤ v.toNat ∧ v.toNat < 0x10 then .ok (.displayControl (v.extractLsb' 0 3))
      else if 0x04 ≤ v.toNat ∧ v.toNat < 0x08 then .ok (.entryModeSet (v.extractLsb' 0 2))
      else if v.toNat = 0x02 then .ok .homeByte
      else if v.toNat = 0x01 then .ok .clearByte
      else .error (.byteNeverEmitted v) := by
  have h7 : v.extractLsb' 7 1 = 1#1 ↔ 0x80 ≤ v.toNat ∧ v.toNat < 0x100 := extractLsb'_eq_one_iff v rfl
  have h6 : v.extractLsb' 6 2 = 1#2 ↔ 0x40 ≤ v.toNat ∧ v.toNat < 0x80 := extractLsb'_eq_one_iff v rfl
  have h5 : v.extractLsb' 5 3 = 1#3 ↔ 0x20 ≤ v.toNat ∧ v.toNat < 0x40 := extractLsb'_eq_one_iff v rfl
  have h3 : v.extractLsb' 3 5 = 1#5 ↔ 0x08 ≤ v.toNat ∧ v.toNat < 0x10 := extractLsb'_eq_one_iff v rfl
  have h2 : v.extractLsb' 2 6 = 1#6 ↔ 0x04 ≤ v.toNat ∧ v.toNat < 0x08 := extractLsb'_eq_one_iff v rfl
  have hlow : v.extractLsb' 0 3 = 0#3 ↔ v.toNat % 8 = 0 := by
    rw [← BitVec.toNat_inj, BitVec.extractLsb'_toNat]
    rfl
  have hone (k : Byte) : v = k ↔ v.toNat = k.toNat := BitVec.toNat_inj.symm
  simp only [decodeInstrByte, h7, h6, h5, h3, h2, hlow, hone 0x18, hone 0x1C, hone 0x02, hone 0x01]
  rfl

/-! ## Each row's byte decodes -/

section Rows

variable (c : Config) (p : Partition)

theorem decodeInstrByte_setDdramByte (a : BitVec 7) :
    decodeInstrByte c (setDdramByte a) p = toHalf p (.setDdram p a) := by
  have ha := a.isLt
  have hfield : (setDdramByte a).extractLsb' 0 7 = a := by revert a; decide
  rw [decodeInstrByte_eq_ranges, setDdramByte_toNat, if_pos (by omega), hfield]

theorem decodeInstrByte_setCgramByte (k : BitVec 3) :
    decodeInstrByte c (setCgramByte k) p = toHalf p (.setCgram p k) := by
  have hk := k.isLt
  have hfield : (setCgramByte k).extractLsb' 3 3 = k := by revert k; decide
  rw [decodeInstrByte_eq_ranges, setCgramByte_toNat, if_neg (by omega), if_pos (by omega), if_pos (by omega), hfield]

theorem decodeInstrByte_displayControlByte (flags : BitVec 3) :
    decodeInstrByte c (displayControlByte flags) p = .ok (.displayControl flags) := by
  have hlt := flags.isLt
  have hfield : (displayControlByte flags).extractLsb' 0 3 = flags := by revert flags; decide
  simp (disch := omega) only [decodeInstrByte_eq_ranges, displayControlByte_toNat, if_neg, if_pos, hfield]

theorem decodeInstrByte_entryModeByte (flags : BitVec 2) :
    decodeInstrByte c (entryModeByte flags) p = .ok (.entryModeSet flags) := by
  have hlt := flags.isLt
  have hfield : (entryModeByte flags).extractLsb' 0 2 = flags := by revert flags; decide
  simp (disch := omega) only [decodeInstrByte_eq_ranges, entryModeByte_toNat, if_neg, if_pos, hfield]

theorem decodeInstrByte_shiftByte (right : Bool) : decodeInstrByte c (shiftByte right) p = .ok (.shift right) := by
  cases right <;> rfl

theorem decodeInstrByte_home : decodeInstrByte c 0x02 p = .ok .homeByte := rfl

theorem decodeInstrByte_clear : decodeInstrByte c 0x01 p = .ok .clearByte := rfl

theorem decodeInstrByte_functionSetByte {c : Config} (h : c.FunctionSetOk) (p : Partition) (lines2 : Bool) :
    decodeInstrByte c (c.functionSetByte lines2) p = .ok (.functionSet lines2) := by
  obtain ⟨hone, htwo, hne⟩ := h
  have hfalse : c.functionSetByte false = c.funcsetBase := BitVec.or_zero
  have htrue : c.functionSetByte true = c.funcsetBase ||| c.twoLine := rfl
  have hrange : 0x20 ≤ (c.functionSetByte lines2).toNat ∧ (c.functionSetByte lines2).toNat < 0x40 := by
    refine (extractLsb'_eq_one_iff (n := 5) (m := 2) _ rfl).mp ?_
    cases lines2
    · rw [hfalse]; exact hone
    · exact htwo
  have hne' : c.functionSetByte true ≠ c.functionSetByte false := by rw [hfalse]; exact hne.symm
  rw [decodeInstrByte_eq_ranges, if_neg (by omega), if_neg (by omega), if_pos hrange]
  cases lines2
  · rw [if_pos rfl]
  · rw [if_neg hne', if_pos rfl]

end Rows

/-! ## What the decoder of instruction bytes can answer -/

/-- The rows of 30_encoding.md R55 and the gaps of R66, each with the bytes it holds and the decoder's answer. -/
inductive InstrByteRow (c : Config) (v : Byte) (p : Partition) : Except Reject Instr → Prop
  | setDdram (h : 0x80 ≤ v.toNat) : InstrByteRow c v p (toHalf p (.setDdram p (v.extractLsb' 0 7)))
  | setCgram (h : 0x40 ≤ v.toNat ∧ v.toNat < 0x80) (hlow : v.toNat % 8 = 0) :
    InstrByteRow c v p (toHalf p (.setCgram p (v.extractLsb' 3 3)))
  | functionSet (lines2 : Bool) (h : v = c.functionSetByte lines2) : InstrByteRow c v p (.ok (.functionSet lines2))
  | shift (right : Bool) (h : v = shiftByte right) : InstrByteRow c v p (.ok (.shift right))
  | displayControl (h : 0x08 ≤ v.toNat ∧ v.toNat < 0x10) :
    InstrByteRow c v p (.ok (.displayControl (v.extractLsb' 0 3)))
  | entryModeSet (h : 0x04 ≤ v.toNat ∧ v.toNat < 0x08) :
    InstrByteRow c v p (.ok (.entryModeSet (v.extractLsb' 0 2)))
  | home (h : v = 0x02) : InstrByteRow c v p (.ok .homeByte)
  | clear (h : v = 0x01) : InstrByteRow c v p (.ok .clearByte)
  | offSlot (h : 0x40 ≤ v.toNat ∧ v.toNat < 0x80) (hlow : v.toNat % 8 ≠ 0) :
    InstrByteRow c v p (.error (.byteNeverEmitted v))
  | otherFunctionSet (h : 0x20 ≤ v.toNat ∧ v.toNat < 0x40) (hset : ∀ lines2, v ≠ c.functionSetByte lines2) :
    InstrByteRow c v p (.error (.byteNeverEmitted v))
  | otherShift (h : 0x10 ≤ v.toNat ∧ v.toNat < 0x20) (hshift : ∀ right, v ≠ shiftByte right) :
    InstrByteRow c v p (.error (.byteNeverEmitted v))
  | otherLow (h : v = 0x00 ∨ v = 0x03) : InstrByteRow c v p (.error (.byteNeverEmitted v))

/-- Every byte is in one of the rows or gaps. -/
theorem decodeInstrByte_row (c : Config) (v : Byte) (p : Partition) : InstrByteRow c v p (decodeInstrByte c v p) := by
  have hv := v.isLt
  rw [decodeInstrByte_eq_ranges]
  by_cases h7 : 0x80 ≤ v.toNat ∧ v.toNat < 0x100
  · rw [if_pos h7]
    exact .setDdram h7.1
  rw [if_neg h7]
  by_cases h6 : 0x40 ≤ v.toNat ∧ v.toNat < 0x80
  · rw [if_pos h6]
    by_cases hlow : v.toNat % 8 = 0
    · rw [if_pos hlow]
      exact .setCgram h6 hlow
    · rw [if_neg hlow]
      exact .offSlot h6 hlow
  rw [if_neg h6]
  by_cases h5 : 0x20 ≤ v.toNat ∧ v.toNat < 0x40
  · rw [if_pos h5]
    by_cases hone : v = c.functionSetByte false
    · rw [if_pos hone]
      exact .functionSet _ hone
    rw [if_neg hone]
    by_cases htwo : v = c.functionSetByte true
    · rw [if_pos htwo]
      exact .functionSet _ htwo
    · rw [if_neg htwo]
      exact .otherFunctionSet h5 (Bool.forall_bool.mpr ⟨hone, htwo⟩)
  rw [if_neg h5]
  have hbyte {k : Byte} : v.toNat = k.toNat ↔ v = k := BitVec.toNat_inj
  by_cases h4 : 0x10 ≤ v.toNat
  · by_cases hleft : v.toNat = 0x18
    · rw [if_pos hleft]
      exact .shift false (hbyte.mp hleft)
    rw [if_neg hleft]
    by_cases hright : v.toNat = 0x1C
    · rw [if_pos hright]
      exact .shift true (hbyte.mp hright)
    · simp (disch := omega) only [if_neg]
      exact .otherShift (by omega) (Bool.forall_bool.mpr ⟨mt hbyte.mpr hleft, mt hbyte.mpr hright⟩)
  rw [if_neg (by omega), if_neg (by omega)]
  by_cases h3 : 0x08 ≤ v.toNat ∧ v.toNat < 0x10
  · rw [if_pos h3]
    exact .displayControl h3
  rw [if_neg h3]
  by_cases h2 : 0x04 ≤ v.toNat ∧ v.toNat < 0x08
  · rw [if_pos h2]
    exact .entryModeSet h2
  rw [if_neg h2]
  by_cases h02 : v.toNat = 0x02
  · rw [if_pos h02]
    exact .home (hbyte.mp h02)
  rw [if_neg h02]
  by_cases h01 : v.toNat = 0x01
  · rw [if_pos h01]
    exact .clear (hbyte.mp h01)
  · rw [if_neg h01]
    have : v.toNat = 0x00 ∨ v.toNat = 0x03 := by omega
    exact .otherLow (this.imp hbyte.mp hbyte.mp)

/-- An address instruction decodes exactly when it names a display half. -/
theorem toHalf_eq_ok_iff {p : Partition} {i j : Instr} : toHalf p i = .ok j ↔ p.isHalf = true ∧ i = j := by
  cases p <;> simp [toHalf, Partition.isHalf]

theorem toHalf_of_isHalf {p : Partition} (h : p.isHalf = true) (i : Instr) : toHalf p i = .ok i :=
  toHalf_eq_ok_iff.mpr ⟨h, rfl⟩

/-! ## A byte is its row's pattern with the operand field in it, in each row with a field -/

theorem setDdramByte_field {v : Byte} (h : 0x80 ≤ v.toNat) : setDdramByte (v.extractLsb' 0 7) = v := by
  have hv := v.isLt
  apply BitVec.eq_of_toNat_eq
  rw [setDdramByte_toNat, BitVec.extractLsb'_toNat, Nat.shiftRight_zero]
  omega

theorem setCgramByte_field {v : Byte} (h : 0x40 ≤ v.toNat ∧ v.toNat < 0x80) (hlow : v.toNat % 8 = 0) :
    setCgramByte (v.extractLsb' 3 3) = v := by
  apply BitVec.eq_of_toNat_eq
  rw [setCgramByte_toNat, BitVec.extractLsb'_toNat, Nat.shiftRight_eq_div_pow]
  omega

theorem displayControlByte_field {v : Byte} (h : 0x08 ≤ v.toNat ∧ v.toNat < 0x10) :
    displayControlByte (v.extractLsb' 0 3) = v := by
  apply BitVec.eq_of_toNat_eq
  rw [displayControlByte_toNat, BitVec.extractLsb'_toNat, Nat.shiftRight_zero]
  omega

theorem entryModeByte_field {v : Byte} (h : 0x04 ≤ v.toNat ∧ v.toNat < 0x08) :
    entryModeByte (v.extractLsb' 0 2) = v := by
  apply BitVec.eq_of_toNat_eq
  rw [entryModeByte_toNat, BitVec.extractLsb'_toNat, Nat.shiftRight_zero]
  omega

/-- An instruction byte that decodes is the encoding of what it decodes to, up to the partition of a broadcast. -/
theorem encode_of_decodeInstrByte {c : Config} {v : Byte} {p : Partition} {i : Instr}
    (hi : decodeInstrByte c v p = .ok i) :
    i.wellFormed = true ∧ (encode c i = .request (.instrByte v p) ∨ encode c i = .request (.instrByte v .none)) := by
  have sent {w : Byte} {q : Partition} (h : w = v) : Encoded.request (.instrByte w q) = .request (.instrByte v q) := by
    rw [h]
  have row := decodeInstrByte_row c v p
  rw [hi] at row
  generalize hd : Except.ok i = d at row
  cases row with
  | setDdram h =>
    obtain ⟨hp, rfl⟩ := toHalf_eq_ok_iff.mp hd.symm
    exact ⟨hp, .inl (sent (setDdramByte_field h))⟩
  | setCgram h hlow =>
    obtain ⟨hp, rfl⟩ := toHalf_eq_ok_iff.mp hd.symm
    exact ⟨hp, .inl (sent (setCgramByte_field h hlow))⟩
  | functionSet _ h | shift _ h | home h | clear h =>
    cases hd
    exact ⟨rfl, .inr (sent h.symm)⟩
  | displayControl h =>
    cases hd
    exact ⟨rfl, .inr (sent (displayControlByte_field h))⟩
  | entryModeSet h =>
    cases hd
    exact ⟨rfl, .inr (sent (entryModeByte_field h))⟩
  | offSlot | otherFunctionSet | otherShift | otherLow => cases hd

/-- A transfer is refused for a byte, a nibble, a partition or a word of its own, never for an opcode. -/
theorem refusalOf_of_decodeRequest {c : Config} {r : Request} {e : Reject} (he : decodeRequest c r = .error e) :
    Machine.refusalOf e = .notEmitted e := by
  cases e with
  | reservedOpcode op =>
    exfalso
    cases r with
    | instrByte v p =>
      have row := decodeInstrByte_row c v p
      rw [← decodeRequest, he] at row
      generalize hd : Except.error (Reject.reservedOpcode op) = d at row
      cases row with
      | setDdram | setCgram => cases p <;> cases hd
      | _ => cases hd
    | instrNibble n =>
      rw [decodeRequest] at he
      split_ifs at he
      cases he
    | dataByte v p => cases he
    | portWord w =>
      rw [decodeRequest, decodePortWord] at he
      split at he <;> cases he
  | _ => rfl

end Sys2Proof

/-! PROOFS. The encoding as a whole: decoding and encoding undo each other, and what does not decode (30_encoding.md
R50, R52, R55, R64 to R71). -/

namespace Sys2Proof

open Machine (isCommand)

/-- A transfer of a form the block sends decodes to it. -/
theorem decode_encode_of_form {c : Config} (h : c.Valid) {i : Instr} (hc : isCommand i = false)
    (hi : i.wellFormed = true) : decode c (encode c i) = .ok i := by
  obtain ⟨hmasks, -, hset⟩ := h
  cases i with
  | clearByte => exact decodeInstrByte_clear c .none
  | homeByte => exact decodeInstrByte_home c .none
  | entryModeSet flags => exact decodeInstrByte_entryModeByte c .none flags
  | displayControl flags => exact decodeInstrByte_displayControlByte c .none flags
  | shift right => exact decodeInstrByte_shiftByte c .none right
  | functionSet lines2 => exact decodeInstrByte_functionSetByte hset .none lines2
  | setCgram p k => exact (decodeInstrByte_setCgramByte c p k).trans (toHalf_of_isHalf hi _)
  | setDdram p a => exact (decodeInstrByte_setDdramByte c p a).trans (toHalf_of_isHalf hi _)
  | resetNibble3 | modeLockNibble2 | dataByte => rfl
  | outputWord => exact decodePortWord_packLines hmasks
  | _ => cases hc

/-- Settles O1: a command goes through the fields of its word, a form the block sends through its row. -/
theorem decodeOfEncode : Obligations.DecodeOfEncode := by
  intro c i h hi
  cases hc : isCommand i with
  | true => exact decode_encode_of_isCommand hc
  | false => exact decode_encode_of_form h hc hi

/-- Settles O2, by the opcode of the word. -/
theorem commandWordMeansItsUsedFields : Obligations.CommandWordMeansItsUsedFields :=
  fun _ _ _ _ hi => ⟨encode_of_decodeCommand hi, fun _ _ => decodeCommand_of_used_fields hi⟩

/-- Settles O4, by the format of the transfer. -/
theorem requestMeansItsForm : Obligations.RequestMeansItsForm := by
  intro c r i h hi
  cases r with
  | instrByte v p =>
    obtain ⟨hwf, hsame | hcleared⟩ := encode_of_decodeInstrByte hi
    · exact ⟨hwf, .inl hsame⟩
    · exact ⟨hwf, .inr ⟨v, p, rfl, hcleared⟩⟩
  | instrNibble n =>
    rw [decodeRequest] at hi
    split_ifs at hi with h3 h2 <;> cases hi
    · exact ⟨rfl, .inl (h3 ▸ rfl)⟩
    · exact ⟨rfl, .inl (h2 ▸ rfl)⟩
  | dataByte v p =>
    cases hi
    exact ⟨rfl, .inl rfl⟩
  | portWord w =>
    obtain ⟨hwf, hsame⟩ := encode_of_decodePortWord h.1 hi
    exact ⟨hwf, .inl hsame⟩

/-- Settles O5: the rows hold exactly the bytes outside the list. -/
theorem instructionBytesWithARow : Obligations.InstructionBytesWithARow := by
  intro c v _ hbase hline
  have hv := v.isLt
  have hfalse : c.functionSetByte false = 0x20 := by simp [Config.functionSetByte, hbase]
  have htrue : c.functionSetByte true = 0x28 := by simp [Config.functionSetByte, hbase, hline]
  have row := decodeInstrByte_row c v .top
  rw [decodeRequest]
  generalize decodeInstrByte c v .top = d at row
  cases row with
  | setDdram | setCgram | displayControl | entryModeSet => exact iff_of_true ⟨_, rfl⟩ (by bv_omega)
  | functionSet flag h | shift flag h =>
    refine iff_of_true ⟨_, rfl⟩ ?_
    rw [h]
    cases flag <;> simp [hfalse, htrue, shiftByte]
  | home h | clear h => exact iff_of_true ⟨_, rfl⟩ (by rw [h]; decide)
  | offSlot h hlow => exact iff_of_false nofun (by bv_omega)
  | otherFunctionSet h hset =>
    have hone : v ≠ 0x20 := hfalse ▸ hset false
    have htwo : v ≠ 0x28 := htrue ▸ hset true
    exact iff_of_false nofun (by bv_omega)
  | otherShift h hshift =>
    have hleft : v ≠ 0x18 := hshift false
    have hright : v ≠ 0x1C := hshift true
    exact iff_of_false nofun (by bv_omega)
  | otherLow h => exact iff_of_false nofun (by rcases h with rfl | rfl <;> decide)

/-- Settles O6: the decoder is run on each word. -/
theorem sampleWordsDecode : Obligations.SampleWordsDecode := by
  unfold Obligations.SampleWordsDecode
  decide

end Sys2Proof

/-! PROOFS. What a step takes and what it refuses (30_encoding.md R71, R75), and the forms the block sends, each as the
sequence it puts on the bus (30_encoding.md R53, R56 to R65). -/

namespace Sys2Proof.Machine

/-- A step of a ready block whose word does not decode is refused. -/
theorem step_of_command_error {s : State} (h : s.ready) {e : Reject}
    (he : decodeCommand s.cmdWord s.cmdGlyph = .error e) : step s = .refused (refusalOf e) := by
  rw [step, State.fetch_command h, he]
  rfl

/-- Settles O3: the decoder's default is reached from 0x14 up and from nowhere else. -/
theorem reservedOpcodesAreRefused : Obligations.ReservedOpcodesAreRefused := by
  refine ⟨fun word glyph => ⟨fun herr => ?_, decodeCommand_of_reserved⟩, fun word glyph => decodeCommand_of_lt,
    fun s hs hop => step_of_command_error hs (decodeCommand_of_reserved hop)⟩
  by_contra hlt
  obtain ⟨i, hi⟩ := decodeCommand_of_lt (glyph := glyph) (Nat.not_le.mp hlt)
  cases hi.symm.trans herr

/-- Settles O7. -/
theorem stepRunsThePresentedCommand : Obligations.StepRunsThePresentedCommand := by
  intro s i hready hi
  rw [step, State.fetch_command hready, hi]
  rfl

/-- Settles O8. -/
theorem stepRunsTheStandingTransfer : Obligations.StepRunsTheStandingTransfer := by
  intro s r i hr hi
  rw [step, State.fetch_request hr, hi]
  rfl

/-- Settles O10. -/
theorem stepIdlesWithNothingPresented : Obligations.StepIdlesWithNothingPresented := by
  intro s hr hv
  rw [step, State.fetch_idle hr (.inr hv)]

/-- Settles O11: the decoder's reason is passed on, since it is never an opcode. -/
theorem neverEmittedFormsAreRefused : Obligations.NeverEmittedFormsAreRefused := by
  refine ⟨fun s r e hr he => ?_, fun c w htop hbot => ?_⟩
  · rw [step, State.fetch_request hr, he, ← refusalOf_of_decodeRequest he]
    rfl
  · rw [decodeRequest, decodePortWord, bne_iff_ne.mpr htop, bne_iff_ne.mpr hbot]

/-- Settles O13. -/
theorem releasedWordAddressesNeither : Obligations.ReleasedWordAddressesNeither :=
  fun _ _ _ _ _ h => packLines_and_not h

/-- A form the block sends runs its sequence on the bus and does nothing else (assumption 12). -/
theorem exec_form (s : State) {i : Instr} {sh : List Shape} (h : isCommand i = false)
    (hsh : bodyShape s.cfg s.backlight s.entry s.dispctl s.part i = sh) : exec i s = .next (s.emit sh) := by
  rw [exec_eq_after, s.emit_eq_after h hsh]

/-- Settles O16: the sequence of each form is its byte to both partitions. -/
theorem broadcastFormsReachBothPartitions : Obligations.BroadcastFormsReachBothPartitions := by
  intro s
  have hone : s.cfg.functionSetByte false = s.cfg.funcsetBase := BitVec.or_zero
  exact ⟨exec_form s rfl rfl, exec_form s rfl rfl, fun _ => exec_form s rfl rfl, fun _ => exec_form s rfl rfl,
    exec_form s rfl rfl, exec_form s rfl rfl, exec_form s rfl (congrArg (byteToBoth s.cfg s.backlight) hone), exec_form s rfl rfl⟩

/-- Settles O17: the sequence of each form is its byte to the partition it names. -/
theorem addressedFormsReachOnePartition : Obligations.AddressedFormsReachOnePartition :=
  fun s _ => ⟨fun _ => exec_form s rfl rfl, fun _ => exec_form s rfl rfl, fun _ => exec_form s rfl rfl⟩

/-- Settles O18: the sequence of each form is its nibble to both partitions. -/
theorem resetNibblesReachBothPartitions : Obligations.ResetNibblesReachBothPartitions :=
  fun s => ⟨exec_form s rfl rfl, exec_form s rfl rfl⟩

/-- Settles O19, by the partition whose enable bit the word carries. -/
theorem outputWordIsOneBusWrite : Obligations.OutputWordIsOneBusWrite := by
  intro s n isData p bl
  cases p <;> exact exec_form s rfl rfl

end Sys2Proof.Machine

/-! PROOFS. What a display half is strobed with: a sequence delivers to each half the nibbles its rule sends there
(40_transfer.md R88), and every instruction byte among them has a row (30_encoding.md R55, R66). -/

namespace Sys2Proof.Machine

/-! ## The words on the lines -/

/-- When every write succeeds, the words on the lines are those of the sequence. -/
theorem lineWords_annotate (address : BitVec 7) {code : Nat → Byte} {sh : List Shape} {k : Nat}
    (h : ∀ j, j < (shapeWords sh).length → code (k + j) = 0) :
    lineWords (annotate address code k sh) = shapeWords sh := by
  induction sh generalizing k with
  | nil => rfl
  | cons x sh ih =>
    cases x with
    | word w =>
      have hw : code k = 0 := h 0 (Nat.succ_pos _)
      have hsh (j : Nat) (hj : j < (shapeWords sh).length) : code (k + 1 + j) = 0 := by
        rw [Nat.add_assoc, Nat.add_comm 1]
        exact h (j + 1) (Nat.succ_lt_succ hj)
      simp [annotate, lineWords, shapeWords, hw, ih hsh]
    | busBegin => exact ih h
    | wait t => exact ih h
    | done op st r => exact ih h

section Lengths

variable (c : Config) (bl : Bool)

@[simp] theorem shapeWords_strobeShape_length (n : Nibble) (isData : Bool) (p : Partition) :
    (shapeWords (strobeShape c bl n isData p)).length = 2 := rfl

@[simp] theorem shapeWords_byteShape_length (v : Byte) (isData : Bool) (p : Partition) :
    (shapeWords (byteShape c bl v isData p)).length = 4 := rfl

@[simp] theorem shapeWords_nibbleToBoth_length (n : Nibble) : (shapeWords (nibbleToBoth c bl n)).length = 4 := rfl

@[simp] theorem shapeWords_byteToBoth_length (v : Byte) : (shapeWords (byteToBoth c bl v)).length = 8 := rfl

@[simp] theorem shapeWords_dataShape_length (p : Partition) (vs : List Byte) :
    (shapeWords (dataShape c bl p vs)).length = 4 * vs.length := by
  induction vs with
  | nil => rfl
  | cons v vs ih =>
    simp [dataShape, ih]
    omega

@[simp] theorem shapeWords_doneShape (i : Instr) : shapeWords (doneShape i) = [] := by
  unfold doneShape
  split <;> rfl

/-- The words of an instruction are as many as 40_transfer.md R93 counts. -/
theorem shapeWords_bodyShape_length (e : BitVec 2) (d : BitVec 3) (part : Partition) (i : Instr) :
    (shapeWords (bodyShape c bl e d part i)).length = instrWrites i := by
  cases i with
  | setCursor col row =>
    rcases setCursor_cases col row with ⟨p, v, ht, -, -, hok⟩ | ⟨ht, -, hok⟩ <;>
      simp [bodyShape, ht, instrWrites, hok, shapeWords]
  | begin => simp [bodyShape, instrWrites, shapeWords]
  | createChar => simp [bodyShape, glyphShape, instrWrites, bitmapRows]
  | _ => rfl

theorem State.shapeWords_shape_length (s : State) (i : Instr) : (shapeWords (s.shape i)).length = instrWrites i := by
  simp [State.shape, shapeWords_bodyShape_length]

end Lengths

/-! ## Strobes -/

theorem strobed_append (c : Config) (q : Partition) (port : Byte) (a b : List Byte) :
    strobed c q port (a ++ b) = strobed c q port a ++ strobed c q (a.getLastD port) b := by
  induction a generalizing port with
  | nil => rfl
  | cons w a ih =>
    rw [List.cons_append, strobed, strobed, ih, List.getLastD_cons]
    split <;> rfl

/-- A sequence that starts with the enable line of q low strobes these pairs into q, and leaves the line low. -/
def Delivers (c : Config) (q : Partition) (sh : List Shape) (pairs : List (Bool × Nibble)) : Prop :=
  ∀ port, port &&& c.enable q = 0 →
    strobed c q port (shapeWords sh) = pairs ∧ (shapeWords sh).getLastD port &&& c.enable q = 0

section Delivery

variable {c : Config} {q : Partition}

theorem Delivers.append {a b : List Shape} {ps qs : List (Bool × Nibble)} (ha : Delivers c q a ps)
    (hb : Delivers c q b qs) : Delivers c q (a ++ b) (ps ++ qs) := by
  intro port hport
  obtain ⟨hstrobed, hlow⟩ := ha port hport
  obtain ⟨hstrobed', hlow'⟩ := hb _ hlow
  have hlast : (shapeWords (a ++ b)).getLastD port = (shapeWords b).getLastD ((shapeWords a).getLastD port) := by
    simp
  rw [hlast, shapeWords_append, strobed_append, hstrobed, hstrobed']
  exact ⟨rfl, hlow'⟩

theorem delivers_of_no_words {sh : List Shape} (h : shapeWords sh = []) : Delivers c q sh [] := by
  intro port hport
  rw [h]
  exact ⟨rfl, hport⟩

theorem Delivers.append_no_words {a b : List Shape} {ps : List (Bool × Nibble)} (ha : Delivers c q a ps)
    (hb : shapeWords b = []) : Delivers c q (a ++ b) ps := by
  simpa using ha.append (delivers_of_no_words hb)

theorem Delivers.wait {a : List Shape} {ps : List (Bool × Nibble)} (ha : Delivers c q a ps) (t : Nat) :
    Delivers c q (a ++ [.wait t]) ps := ha.append_no_words rfl

/-- What is sent to TOP and then to BOTTOM is delivered to each half once. -/
theorem Delivers.both (hq : q.isHalf = true) {a b : List Shape} {ps : List (Bool × Nibble)}
    (ha : Delivers c q a (if q = .top then ps else [])) (hb : Delivers c q b (if q = .bottom then ps else [])) :
    Delivers c q (a ++ b) ps := by
  have hboth := ha.append hb
  cases q with
  | none => cases hq
  | top => simpa using hboth
  | bottom => exact hboth

variable (h : c.MasksOk) (hq : q.isHalf = true) (bl : Bool)
include h hq

/-- A strobe pair delivers its nibble to the partition it addresses and nothing to another. -/
theorem delivers_strobeShape (n : Nibble) (isData : Bool) (p : Partition) :
    Delivers c q (strobeShape c bl n isData p) (if q = p then [(isData, n)] else []) := by
  intro port hport
  have hhigh : (c.packLines n isData p bl &&& c.enable q != 0) = decide (p = q) := packLines_enable_bit h hq
  have hlow : c.packLines n isData .none bl &&& c.enable q = 0 := by
    rw [packLines_and_enable h hq, if_neg]
    rintro rfl
    cases hq
  have hrs : (c.packLines n isData .none bl &&& c.rsMask != 0) = isData := packLines_rsMask_bit h
  simp only [strobeShape, packLines_and_not h, shapeWords, strobed, hport, hhigh, hlow, hrs, packLines_nibble h,
    List.getLastD_cons]
  by_cases hp : p = q
  · simp [hp, hlow]
  · simp [hp, Ne.symm hp, hlow]

theorem delivers_byteShape (v : Byte) (isData : Bool) (p : Partition) :
    Delivers c q (byteShape c bl v isData p) (if q = p then byteNibbles isData v else []) := by
  have hbyte := (delivers_strobeShape h hq bl (v.extractLsb' 4 4) isData p).append
    (delivers_strobeShape h hq bl (v.extractLsb' 0 4) isData p)
  split_ifs at hbyte ⊢ <;> exact hbyte

theorem delivers_dataShape (p : Partition) (vs : List Byte) :
    Delivers c q (dataShape c bl p vs) (if q = p then dataNibbles vs else []) := by
  induction vs with
  | nil => simpa [dataNibbles] using delivers_of_no_words rfl
  | cons v vs ih =>
    have hdata := (delivers_byteShape h hq bl v true p).append ih
    split_ifs at hdata ⊢ <;> exact hdata

theorem delivers_nibbleToBoth (n : Nibble) : Delivers c q (nibbleToBoth c bl n) [(false, n)] :=
  .both hq (delivers_strobeShape h hq bl n false .top) (delivers_strobeShape h hq bl n false .bottom)

theorem delivers_byteToBoth (v : Byte) : Delivers c q (byteToBoth c bl v) (byteNibbles false v) :=
  .both hq (delivers_byteShape h hq bl v false .top) (delivers_byteShape h hq bl v false .bottom)

theorem delivers_glyphShape (slot : Byte) (bitmap : Bitmap) (p : Partition) :
    Delivers c q (glyphShape c bl slot bitmap p)
      (if q = p then byteNibbles false (setCgramByte (slotIndex slot)) ++ dataNibbles (bitmapRows bitmap) else []) := by
  have hglyph := (delivers_byteShape h hq bl (setCgramByte (slotIndex slot)) false p).append
    (delivers_dataShape h hq bl p (bitmapRows bitmap))
  split_ifs at hglyph ⊢ <;> exact hglyph

end Delivery

/-! ## What a command delivers -/

/-- The bytes of the rules, as the encoder makes them. -/
theorem setCgramByte_slotIndex (slot : Byte) : setCgramByte (slotIndex slot) = 0x40 ||| ((slot &&& 7) <<< 3) := by
  revert slot
  decide

theorem functionSetByte_twoLines (c : Config) (rows : Byte) :
    c.functionSetByte (twoLines rows) = c.funcsetBase ||| (if 1 < rows.toNat then c.twoLine else 0) := by
  simp [Config.functionSetByte, twoLines]

theorem delivered_setCursor (s : State) (q : Partition) (col row : Byte) :
    delivered s q (.setCursor col row) =
      match cursorTarget col row with
      | none => []
      | some (p, v) => if q = p then byteNibbles false v else [] := by
  simp only [delivered, cursorTarget, rowMap]
  match row.toNat with
  | 0 | 1 | 2 | 3 => simp
  | n + 4 => rfl

/-- The sequence of a command delivers what its rule says (R88). -/
theorem delivers_bodyShape {s : State} (h : s.cfg.MasksOk) {q : Partition} (hq : q.isHalf = true) {i : Instr}
    (hc : isCommand i = true) :
    Delivers s.cfg q (bodyShape s.cfg s.backlight s.entry s.dispctl s.part i) (delivered s q i) := by
  have toBoth := delivers_byteToBoth h hq s.backlight
  cases i with
  | begin cols rows =>
    have nibble := delivers_nibbleToBoth h hq s.backlight
    have hstart : Delivers s.cfg q [.busBegin] [] := delivers_of_no_words rfl
    have hresets := ((((hstart.append (nibble 0x3)).wait s.cfg.tInit1).append (nibble 0x3)).wait s.cfg.tInit2).append
      (nibble 0x3)
    have hnibbles := (hresets.wait s.cfg.tInit3).append (nibble 0x2)
    rw [delivered, ← functionSetByte_twoLines]
    exact ((((hnibbles.append (toBoth _)).append (toBoth _)).append (toBoth _)).wait _).append (toBoth _)
  | init | clear | home => exact (toBoth _).wait _
  | setCursor col row =>
    rw [delivered_setCursor, bodyShape]
    cases cursorTarget col row with
    | none => exact delivers_of_no_words rfl
    | some target => exact delivers_byteShape h hq _ _ _ _
  | setBacklight level =>
    have hnone : q ≠ .none := by rintro rfl; cases hq
    simpa [hnone, delivered, bodyShape] using delivers_strobeShape h hq (level != 0) 0x0 false .none
  | createChar slot bitmap =>
    rw [delivered, ← setCgramByte_slotIndex]
    exact .both hq (delivers_glyphShape h hq _ slot bitmap .top) (delivers_glyphShape h hq _ slot bitmap .bottom)
  | write ch => exact delivers_byteShape h hq _ ch true s.part
  | clearByte | homeByte | entryModeSet | displayControl | shift | functionSet | setCgram | setDdram | resetNibble3
  | modeLockNibble2 | dataByte | outputWord => cases hc
  | _ => exact toBoth _

/-- From low enable lines, when every write succeeds, a half is strobed with what the rule of the command sends it. -/
theorem State.strobed_shape {s : State} (h : s.cfg.MasksOk) (hidle : s.linesIdle) {q : Partition} (hq : q.isHalf = true)
    {i : Instr} (hc : isCommand i = true) (hok : ∀ k, k < instrWrites i → s.codeAt k = 0) :
    strobed s.cfg q s.port (lineWords (annotate s.addr s.codeAt 0 (s.shape i))) = delivered s q i := by
  have hcodes (j : Nat) (hj : j < (shapeWords (s.shape i)).length) : s.codeAt (0 + j) = 0 := by
    rw [Nat.zero_add]
    exact hok j (s.shapeWords_shape_length i ▸ hj)
  have hport : s.port &&& s.cfg.enable q = 0 := by
    cases q with
    | none => cases hq
    | top => exact hidle.1
    | bottom => exact hidle.2
  have hshape : Delivers s.cfg q (s.shape i) (delivered s q i) :=
    (delivers_bodyShape h hq hc).append_no_words (shapeWords_doneShape i)
  rw [lineWords_annotate s.addr hcodes]
  exact (hshape s.port hport).1

/-! ## The bytes delivered -/

/-- The pairs, read as bytes, hold no instruction byte without a row. -/
def RowsOnly (c : Config) (q : Partition) (pairs : List (Bool × Nibble)) : Prop :=
  ∀ v, (false, v) ∈ pairBytes pairs → ∃ j, decodeRequest c (.instrByte v q) = .ok j

theorem pairBytes_byteNibbles (isData : Bool) (v : Byte) (rest : List (Bool × Nibble)) :
    pairBytes (byteNibbles isData v ++ rest) = (isData, v) :: pairBytes rest := by
  have hv : (v.extractLsb' 4 4).setWidth 8 <<< 4 ||| (v.extractLsb' 0 4).setWidth 8 = v := by
    revert v
    decide
  simp [byteNibbles, pairBytes, hv]

section Rows

variable {c : Config} {q : Partition}

theorem rowsOnly_nil : RowsOnly c q [] := nofun

theorem RowsOnly.byte {v : Byte} {j : Instr} {rest : List (Bool × Nibble)} (hv : decodeInstrByte c v q = .ok j)
    (hrest : RowsOnly c q rest) : RowsOnly c q (byteNibbles false v ++ rest) := by
  intro v' hv'
  rw [pairBytes_byteNibbles, List.mem_cons] at hv'
  rcases hv' with heq | hmem
  · cases heq
    exact ⟨j, hv⟩
  · exact hrest v' hmem

theorem rowsOnly_byteNibbles {v : Byte} {j : Instr} (hv : decodeInstrByte c v q = .ok j) :
    RowsOnly c q (byteNibbles false v) := rowsOnly_nil.byte hv

/-- Data bytes are no instruction bytes. -/
theorem rowsOnly_dataNibbles (vs : List Byte) : RowsOnly c q (dataNibbles vs) := by
  induction vs with
  | nil => exact rowsOnly_nil
  | cons v vs ih =>
    intro v' hv'
    rw [dataNibbles, pairBytes_byteNibbles, List.mem_cons] at hv'
    exact ih v' (hv'.resolve_left nofun)

theorem rowsOnly_ite {P : Prop} [Decidable P] {pairs : List (Bool × Nibble)} (h : RowsOnly c q pairs) :
    RowsOnly c q (if P then pairs else []) := by
  split
  · exact h
  · exact rowsOnly_nil

end Rows

/-- The byte that `setCursor` sends is a SET_DDRAM (30_encoding.md R63). -/
theorem cursorTarget_eq_setDdramByte {col row v : Byte} {p : Partition} (h : cursorTarget col row = some (p, v)) :
    ∃ a, v = setDdramByte a := by
  have hlow (x : Byte) : 0x80 ||| x = setDdramByte (x.extractLsb' 0 7) := by
    revert x
    decide
  rw [cursorTarget] at h
  split at h <;> cases h
  exact ⟨_, hlow _⟩

/-- A command other than `begin` delivers only bytes with a row. -/
theorem rowsOnly_delivered (s : State) {q : Partition} (hq : q.isHalf = true) {i : Instr}
    (hc : isCommand i = true) (hbegin : ∀ cols rows, i ≠ .begin cols rows) :
    RowsOnly s.cfg q (delivered s q i) := by
  have dispctl (d : BitVec 3) := rowsOnly_byteNibbles (decodeInstrByte_displayControlByte s.cfg q d)
  have entry (e : BitVec 2) := rowsOnly_byteNibbles (decodeInstrByte_entryModeByte s.cfg q e)
  cases i with
  | begin cols rows => exact absurd rfl (hbegin cols rows)
  | init | clear => exact rowsOnly_byteNibbles (decodeInstrByte_clear s.cfg q)
  | home => exact rowsOnly_byteNibbles (decodeInstrByte_home s.cfg q)
  | setCursor col row =>
    rw [delivered_setCursor]
    cases ht : cursorTarget col row with
    | none => exact rowsOnly_nil
    | some target =>
      obtain ⟨a, ha⟩ := cursorTarget_eq_setDdramByte ht
      have hrow := (decodeInstrByte_setDdramByte s.cfg q a).trans (toHalf_of_isHalf hq _)
      exact rowsOnly_ite (rowsOnly_byteNibbles (ha ▸ hrow))
  | cursor | noCursor | blink | noBlink | display | noDisplay => exact dispctl _
  | scrollDisplayLeft => exact rowsOnly_byteNibbles (decodeInstrByte_shiftByte s.cfg q false)
  | scrollDisplayRight => exact rowsOnly_byteNibbles (decodeInstrByte_shiftByte s.cfg q true)
  | leftToRight | rightToLeft | autoscroll | noAutoscroll => exact entry _
  | setBacklight => exact rowsOnly_nil
  | createChar slot bitmap =>
    rw [delivered, ← setCgramByte_slotIndex]
    have hrow := (decodeInstrByte_setCgramByte s.cfg q (slotIndex slot)).trans (toHalf_of_isHalf hq _)
    exact (rowsOnly_dataNibbles (bitmapRows bitmap)).byte hrow
  | write ch => exact rowsOnly_ite (rowsOnly_dataNibbles [ch])
  | clearByte | homeByte | entryModeSet | displayControl | shift | functionSet | setCgram | setDdram | resetNibble3
  | modeLockNibble2 | dataByte | outputWord => cases hc

/-- After its four single nibbles, `begin` delivers only bytes with a row. -/
theorem rowsOnly_delivered_begin (s : State) (h : s.cfg.FunctionSetOk) (q : Partition) (cols rows : Byte) :
    RowsOnly s.cfg q ((delivered s q (.begin cols rows)).drop 4) := by
  have hrows : RowsOnly s.cfg q (byteNibbles false (s.cfg.functionSetByte (twoLines rows)) ++
      (byteNibbles false (displayControlByte (s.dispctl ||| 0b100)) ++
      (byteNibbles false 0x01 ++ byteNibbles false (entryModeByte (s.entry ||| 0b10))))) :=
    (((rowsOnly_byteNibbles (decodeInstrByte_entryModeByte s.cfg q _)).byte
      (decodeInstrByte_clear s.cfg q)).byte
      (decodeInstrByte_displayControlByte s.cfg q _)).byte
      (decodeInstrByte_functionSetByte h q _)
  rw [delivered, ← functionSetByte_twoLines]
  exact hrows

/-- Settles O39: the pairs strobed are those delivered, and the bytes delivered have rows. -/
theorem deliveredInstructionBytesHaveRows : Obligations.DeliveredInstructionBytesHaveRows := by
  intro i s q v hc hcfg hidle hok hhalf
  obtain ⟨hmasks, -, hset⟩ := hcfg
  have hq : q.isHalf = true := by rcases hhalf with rfl | rfl <;> rfl
  refine ⟨s.after i, _, exec_eq_after i s, s.after_trace i, ?_⟩
  rw [State.strobed_shape hmasks hidle hq hc hok]
  cases i with
  | begin cols rows => exact rowsOnly_delivered_begin s hset q cols rows v
  | _ => exact rowsOnly_delivered s hq hc nofun v

end Sys2Proof.Machine

/-! PROOFS. The transfer micro-operations: the fields of a packed word, one bus write and one strobe pair when the
transport's answers are known (40_transfer.md R80 to R84). -/

namespace Sys2Proof.Machine

/-! ## The packed word -/

theorem ne_zero_iff_of_bit {x : Byte} {b : Bool} (h : (x != 0) = b) : x ≠ 0 ↔ b = true := by
  rw [← h, bne_iff_ne]

/-- Settles O12: each line of the word is read as a bit. -/
theorem packedWordFields : Obligations.PackedWordFields := by
  intro s n isData p h
  have htop : (s.packWord n isData p &&& s.cfg.enTopMask != 0) = decide (p = .top) :=
    packLines_enable_bit h (q := .top) rfl
  have hbot : (s.packWord n isData p &&& s.cfg.enBotMask != 0) = decide (p = .bottom) :=
    packLines_enable_bit h (q := .bottom) rfl
  exact ⟨packLines_nibble h, ne_zero_iff_of_bit (packLines_rsMask_bit h),
    (ne_zero_iff_of_bit htop).trans decide_eq_true_iff, (ne_zero_iff_of_bit hbot).trans decide_eq_true_iff,
    (ne_zero_iff_of_bit (packLines_blMask_bit h)).trans bne_iff_ne⟩

/-! ## Writes with known answers -/

theorem State.codeAt_of_answers {s : State} {k : Nat} {c : Byte} (h : s.answers[k]? = some c) : s.codeAt k = c := by
  rw [State.codeAt, h]

/-- Only the last write has to succeed for PORT to hold the last word (10_state.md R20). -/
theorem portRun_of_last_success {code : Nat → Byte} {latch : Nat → Bool} {k : Nat} {port : Byte} {ws : List Byte}
    (hne : ws ≠ []) (hlast : code (k + (ws.length - 1)) = 0) (dflt : Byte) :
    portRun code latch k port ws = ws.getLastD dflt := by
  obtain ⟨init, w, rfl⟩ := ws.eq_nil_or_concat'.resolve_left hne
  have hcode : code (k + init.length) = 0 := by simpa using hlast
  rw [portRun_append, portRun, portRun, if_pos hcode]
  simp

/-- Settles O14: a bus write is the emission of its word. -/
theorem busWriteRule : Obligations.BusWriteRule := by
  intro s w c rest hans
  have hcode : s.codeAt 0 = c := State.codeAt_of_answers (by rw [hans]; rfl)
  refine ⟨(s.busWrite_code w).trans hcode, portRun s.codeAt s.latchAt 0 s.port [w], fun hc => ?_, ?_, ?_⟩
  · exact portRun_of_last_success (List.cons_ne_nil _ _) (hcode.trans hc) w
  · simpa using portRun_eq_or_mem s.codeAt s.latchAt 0 s.port [w]
  · rw [State.busWrite_eq_emit]
    simp [State.emit, shapeWords, annotate, hans, hcode]

/-- Settles O15: a nibble is the emission of its strobe pair. -/
theorem sendNibbleRule : Obligations.SendNibbleRule := by
  intro s n isData p c1 c2 rest hans w1 w0
  have hcode1 : s.codeAt 0 = c1 := State.codeAt_of_answers (by rw [hans]; rfl)
  have hcode2 : s.codeAt 1 = c2 := State.codeAt_of_answers (by rw [hans]; rfl)
  have hshape : strobeShape s.cfg s.backlight n isData p =
      [.word w1, .wait s.cfg.tHold, .word w0, .wait s.cfg.tSettle] := rfl
  refine ⟨?_, portRun s.codeAt s.latchAt 0 s.port [w1, w0], fun hc => ?_, ?_, ?_⟩
  · rw [State.sendNibble_status, hcode1, hcode2]
  · exact portRun_of_last_success (List.cons_ne_nil _ _) (hcode2.trans hc) w0
  · simpa using portRun_eq_or_mem s.codeAt s.latchAt 0 s.port [w1, w0]
  · rw [State.sendNibble_eq_emit, hshape]
    simp [State.emit, shapeWords, annotate, hans, hcode1, hcode2]

end Sys2Proof.Machine

/-! PROOFS. Counts: the writes, waits and `B` events of a sequence are those of its trace, whatever the codes
(40_transfer.md R93). -/

namespace Sys2Proof.Machine

/-! ## Counting a sequence -/

/-- The waits of a sequence, in order. -/
def shapeWaits : List Shape → List Nat
  | [] => []
  | .wait t :: rest => t :: shapeWaits rest
  | .busBegin :: rest => shapeWaits rest
  | .word _ :: rest => shapeWaits rest
  | .done _ _ _ :: rest => shapeWaits rest

@[simp] theorem shapeWaits_append (a b : List Shape) : shapeWaits (a ++ b) = shapeWaits a ++ shapeWaits b := by
  induction a with
  | nil => rfl
  | cons x a ih => cases x <;> simp [shapeWaits, ih]

section Annotate

variable (address : BitVec 7) (code : Nat → Byte) (k : Nat) (sh : List Shape)

/-- A report is no write, so only words count. -/
theorem writesIn_annotate : writesIn (annotate address code k sh) = (shapeWords sh).length := by
  induction sh generalizing k with
  | nil => rfl
  | cons x sh ih =>
    cases x with
    | word w =>
      rw [annotate]
      split <;> simp [writesIn, shapeWords, ih]
    | _ => exact ih k

theorem waitsIn_annotate : waitsIn (annotate address code k sh) = shapeWaits sh := by
  induction sh generalizing k with
  | nil => rfl
  | cons x sh ih =>
    cases x with
    | word w =>
      rw [annotate]
      split <;> simp [waitsIn, shapeWaits, ih]
    | wait t => exact congrArg (t :: ·) (ih k)
    | _ => exact ih k

theorem count_busBegin_annotate : (annotate address code k sh).count .busBegin = sh.count .busBegin := by
  induction sh generalizing k with
  | nil => rfl
  | cons x sh ih =>
    cases x with
    | word w =>
      rw [annotate]
      split <;> simp [ih]
    | _ => simp [annotate, ih]

end Annotate

/-! ## Counting an instruction -/

section Counts

variable (c : Config) (bl : Bool)

@[simp] theorem shapeWaits_strobeShape (n : Nibble) (isData : Bool) (p : Partition) :
    shapeWaits (strobeShape c bl n isData p) = [c.tHold, c.tSettle] := rfl

@[simp] theorem shapeWaits_byteShape_length (v : Byte) (isData : Bool) (p : Partition) :
    (shapeWaits (byteShape c bl v isData p)).length = 4 := rfl

@[simp] theorem shapeWaits_nibbleToBoth_length (n : Nibble) : (shapeWaits (nibbleToBoth c bl n)).length = 4 := rfl

@[simp] theorem shapeWaits_byteToBoth_length (v : Byte) : (shapeWaits (byteToBoth c bl v)).length = 8 := rfl

@[simp] theorem shapeWaits_dataShape_length (p : Partition) (vs : List Byte) :
    (shapeWaits (dataShape c bl p vs)).length = 4 * vs.length := by
  induction vs with
  | nil => rfl
  | cons v vs ih =>
    simp [dataShape, ih]
    omega

@[simp] theorem shapeWaits_doneShape (i : Instr) : shapeWaits (doneShape i) = [] := by
  unfold doneShape
  split <;> rfl

@[simp] theorem count_busBegin_strobeShape (n : Nibble) (isData : Bool) (p : Partition) :
    (strobeShape c bl n isData p).count .busBegin = 0 := rfl

@[simp] theorem count_busBegin_byteShape (v : Byte) (isData : Bool) (p : Partition) :
    (byteShape c bl v isData p).count .busBegin = 0 := rfl

@[simp] theorem count_busBegin_nibbleToBoth (n : Nibble) : (nibbleToBoth c bl n).count .busBegin = 0 := rfl

@[simp] theorem count_busBegin_byteToBoth (v : Byte) : (byteToBoth c bl v).count .busBegin = 0 := rfl

@[simp] theorem count_busBegin_dataShape (p : Partition) (vs : List Byte) :
    (dataShape c bl p vs).count .busBegin = 0 := by
  induction vs with
  | nil => rfl
  | cons v vs ih => rw [dataShape, List.count_append, count_busBegin_byteShape, ih]

@[simp] theorem count_busBegin_doneShape (i : Instr) : (doneShape i).count .busBegin = 0 := by
  unfold doneShape
  split <;> rfl

/-- `B` events of each instruction: `begin` alone calls `busBegin()` (41_init.md R102). -/
def instrBegins : Instr → Nat
  | .begin _ _ => 1
  | _ => 0

variable (e : BitVec 2) (d : BitVec 3) (part : Partition) (i : Instr)

theorem shapeWaits_bodyShape_length : (shapeWaits (bodyShape c bl e d part i)).length = instrWaits i := by
  cases i with
  | setCursor col row =>
    rcases setCursor_cases col row with ⟨p, v, ht, -, -, hok⟩ | ⟨ht, -, hok⟩ <;>
      simp [bodyShape, ht, instrWaits, hok, shapeWaits]
  | begin => simp [bodyShape, instrWaits, shapeWaits]
  | createChar => simp [bodyShape, glyphShape, instrWaits, bitmapRows]
  | _ => rfl

theorem count_busBegin_bodyShape : (bodyShape c bl e d part i).count .busBegin = instrBegins i := by
  cases i with
  | setCursor col row =>
    rcases setCursor_cases col row with ⟨p, v, ht, -, -, -⟩ | ⟨ht, -, -⟩ <;> simp [bodyShape, ht, instrBegins]
  | begin => simp [bodyShape, instrBegins]
  | createChar => simp [bodyShape, glyphShape, instrBegins]
  | _ => rfl

end Counts

/-- What t's trace has beyond that of s: so many writes, waits and `B` events. -/
def State.Appends (s t : State) (writes waits begins : Nat) : Prop :=
  ∃ new, t.trace = s.trace ++ new ∧ writesIn new = writes ∧ (waitsIn new).length = waits ∧
    new.count .busBegin = begins

/-- The state after a sequence has the counts of the sequence. -/
theorem State.appends_of_trace {s t : State} {sh : List Shape}
    (h : t.trace = s.trace ++ annotate s.addr s.codeAt 0 sh) :
    s.Appends t (shapeWords sh).length (shapeWaits sh).length (sh.count .busBegin) :=
  ⟨_, h, writesIn_annotate .., by rw [waitsIn_annotate], count_busBegin_annotate ..⟩

theorem State.appends_emit (s : State) (sh : List Shape) :
    s.Appends (s.emit sh) (shapeWords sh).length (shapeWaits sh).length (sh.count .busBegin) :=
  State.appends_of_trace rfl

/-- An instruction makes the writes, waits and `B` events that R93 counts. -/
theorem State.appends_after (s : State) (i : Instr) :
    s.Appends (s.after i) (instrWrites i) (instrWaits i) (instrBegins i) := by
  have happends := State.appends_of_trace (s.after_trace i)
  have hwaits : (shapeWaits (s.shape i)).length = instrWaits i := by
    simp [State.shape, shapeWaits_bodyShape_length]
  have hbegins : (s.shape i).count .busBegin = instrBegins i := by
    simp [State.shape, count_busBegin_bodyShape]
  rwa [s.shapeWords_shape_length, hwaits, hbegins] at happends

/-- Settles O36: each micro-operation is an emission, and each command its sequence. -/
theorem transferAndCommandCounts : Obligations.TransferAndCommandCounts := by
  intro s
  refine ⟨fun n isData p => ?_, fun v isData p => ?_, fun n => ?_, fun v => ?_, fun i _ => ?_⟩
  · rw [State.sendNibble_eq_emit]
    exact s.appends_emit (strobeShape s.cfg s.backlight n isData p)
  · rw [State.send_eq_emit]
    exact s.appends_emit (byteShape s.cfg s.backlight v isData p)
  · rw [State.broadcastNibble_eq_emit]
    exact s.appends_emit (nibbleToBoth s.cfg s.backlight n)
  · rw [State.broadcast_eq_emit]
    exact s.appends_emit (byteToBoth s.cfg s.backlight v)
  · exact ⟨s.after i, exec_eq_after i s, s.appends_after i⟩

end Sys2Proof.Machine

/-! PROOFS. What a command puts on the lines: a sequence that no completion code changes, low enable lines at its end,
and one backlight bit on all its words (40_transfer.md R88 to R92). -/

namespace Sys2Proof.Machine

/-! ## Codes decide no sequence -/

/-- All that an instruction issues is made from the configuration and the registers. -/
theorem State.shape_eq_registers (s : State) (i : Instr) :
    s.shape i = bodyShape s.cfg (s.registers.blLevel != 0) s.registers.entry s.registers.dispctl s.registers.part i ++
      doneShape i := rfl

/-- Settles O34: the sequence is `State.shape`, and the end of a command is the instruction's own. -/
theorem errorsNeverShortenASequence : Obligations.ErrorsNeverShortenASequence := by
  intro i s s' hcfg hreg
  have haddr : s'.addr = s.addr := congrArg Registers.addr hreg
  have hshape : s'.shape i = s.shape i := by rw [State.shape_eq_registers, State.shape_eq_registers, hcfg, hreg]
  refine ⟨s.after i, s'.after i, s.shape i, exec_eq_after i s, exec_eq_after i s', s.after_trace i, ?_, ?_,
    fun hc => ?_⟩
  · rw [State.after_trace, hshape, haddr]
  · rw [State.after_registers, State.after_registers, hreg]
  · simp [hc]

/-! ## The enable lines -/

/-- Settles O38: the pairs that the sequence of a command strobes are those its rule delivers. -/
theorem strobesDeliverWhatTheRuleSends : Obligations.StrobesDeliverWhatTheRuleSends := by
  intro i s q hc hcfg hidle hok hhalf
  have hq : q.isHalf = true := by rcases hhalf with rfl | rfl <;> rfl
  exact ⟨s.after i, _, exec_eq_after i s, s.after_trace i, State.strobed_shape hcfg.1 hidle hq hc hok⟩

/-- The last word of a command releases the enable line, since a sequence that starts with it low ends with it low. -/
theorem State.after_enable_low {s : State} (h : s.cfg.MasksOk) {q : Partition} (hq : q.isHalf = true) {i : Instr}
    (hc : isCommand i = true) (hwrites : 0 < instrWrites i) (hlast : s.codeAt (instrWrites i - 1) = 0) :
    (s.after i).port &&& s.cfg.enable q = 0 := by
  rw [← s.shapeWords_shape_length i] at hwrites hlast
  have hlast' : s.codeAt (0 + ((shapeWords (s.shape i)).length - 1)) = 0 := by rwa [Nat.zero_add]
  have hshape : Delivers s.cfg q (s.shape i) (delivered s q i) :=
    (delivers_bodyShape h hq hc).append_no_words (shapeWords_doneShape i)
  rw [State.after_port, portRun_of_last_success (List.ne_nil_of_length_pos hwrites) hlast' 0]
  exact (hshape 0 BitVec.zero_and).2

/-- Settles O40, for each half. -/
theorem enableLinesIdleLow : Obligations.EnableLinesIdleLow := by
  intro i s hc hcfg hwrites hlast
  exact ⟨s.after i, exec_eq_after i s, State.after_enable_low hcfg.1 (q := .top) rfl hc hwrites hlast,
    State.after_enable_low hcfg.1 (q := .bottom) rfl hc hwrites hlast⟩

/-! ## The backlight line -/

/-- Every word of a sequence is packed with this backlight bit. -/
def PackedWith (c : Config) (bl : Bool) (sh : List Shape) : Prop :=
  ∀ w ∈ shapeWords sh, ∃ n isData p, w = c.packLines n isData p bl

/-- A written word is a word of the sequence. -/
theorem mem_shapeWords_of_write_mem {address a : BitVec 7} {code : Nat → Byte} {k : Nat} {sh : List Shape} {w b : Byte}
    (h : Event.write a w b ∈ annotate address code k sh) : w ∈ shapeWords sh := by
  induction sh generalizing k with
  | nil => cases h
  | cons x sh ih =>
    cases x with
    | word w' =>
      rw [annotate, List.mem_cons, List.mem_append] at h
      rcases h with hwrite | hreport | hrest
      · cases hwrite
        exact List.mem_cons_self
      · split at hreport <;> simp at hreport
      · exact List.mem_cons_of_mem _ (ih hrest)
    | busBegin | wait | done => exact ih ((List.mem_cons.mp h).resolve_left nofun)

section Packed

variable {c : Config} {bl : Bool}

theorem packedWith_of_no_words {sh : List Shape} (h : shapeWords sh = []) : PackedWith c bl sh := by
  intro w hw
  rw [h] at hw
  cases hw

theorem PackedWith.append {a b : List Shape} (ha : PackedWith c bl a) (hb : PackedWith c bl b) :
    PackedWith c bl (a ++ b) := by
  intro w hw
  rw [shapeWords_append, List.mem_append] at hw
  exact hw.elim (ha w) (hb w)

theorem PackedWith.append_no_words {a b : List Shape} (ha : PackedWith c bl a) (hb : shapeWords b = []) :
    PackedWith c bl (a ++ b) := ha.append (packedWith_of_no_words hb)

theorem PackedWith.wait {a : List Shape} (ha : PackedWith c bl a) (t : Nat) : PackedWith c bl (a ++ [.wait t]) :=
  ha.append_no_words rfl

variable (h : c.MasksOk)
include h

/-- The released word of a strobe pair is packed to neither partition (30_encoding.md R53). -/
theorem packedWith_strobeShape (n : Nibble) (isData : Bool) (p : Partition) :
    PackedWith c bl (strobeShape c bl n isData p) := by
  rw [strobeShape, packLines_and_not h]
  exact List.forall_mem_cons.mpr ⟨⟨n, isData, p, rfl⟩, List.forall_mem_singleton.mpr ⟨n, isData, .none, rfl⟩⟩

theorem packedWith_byteShape (v : Byte) (isData : Bool) (p : Partition) :
    PackedWith c bl (byteShape c bl v isData p) :=
  (packedWith_strobeShape h _ isData p).append (packedWith_strobeShape h _ isData p)

theorem packedWith_nibbleToBoth (n : Nibble) : PackedWith c bl (nibbleToBoth c bl n) :=
  (packedWith_strobeShape h n false .top).append (packedWith_strobeShape h n false .bottom)

theorem packedWith_byteToBoth (v : Byte) : PackedWith c bl (byteToBoth c bl v) :=
  (packedWith_byteShape h v false .top).append (packedWith_byteShape h v false .bottom)

theorem packedWith_dataShape (p : Partition) (vs : List Byte) : PackedWith c bl (dataShape c bl p vs) := by
  induction vs with
  | nil => exact packedWith_of_no_words rfl
  | cons v vs ih => exact (packedWith_byteShape h v true p).append ih

theorem packedWith_glyphShape (slot : Byte) (bitmap : Bitmap) (p : Partition) :
    PackedWith c bl (glyphShape c bl slot bitmap p) :=
  (packedWith_byteShape h _ false p).append (packedWith_dataShape h p _)

end Packed

/-- The words of a command are packed with the level it leaves: only `setBacklight` changes it, before it sends
(43_backlight_glyph_write.md R140). -/
theorem packedWith_bodyShape {c : Config} (h : c.MasksOk) (r : Registers) {i : Instr} (hc : isCommand i = true) :
    PackedWith c ((registersAfter r i).blLevel != 0)
      (bodyShape c (r.blLevel != 0) r.entry r.dispctl r.part i) := by
  have toBoth := packedWith_byteToBoth (bl := r.blLevel != 0) h
  cases i with
  | begin cols rows =>
    have nibble := packedWith_nibbleToBoth (bl := r.blLevel != 0) h
    have hstart : PackedWith c (r.blLevel != 0) [.busBegin] := packedWith_of_no_words rfl
    have hresets := ((((hstart.append (nibble 0x3)).wait c.tInit1).append (nibble 0x3)).wait c.tInit2).append
      (nibble 0x3)
    have hnibbles := (hresets.wait c.tInit3).append (nibble 0x2)
    exact ((((hnibbles.append (toBoth _)).append (toBoth _)).append (toBoth _)).wait _).append (toBoth _)
  | init | clear | home => exact (toBoth _).wait _
  | setCursor col row =>
    rcases setCursor_cases col row with ⟨p, v, ht, -, hr, -⟩ | ⟨ht, -, -⟩ <;> rw [bodyShape, ht]
    · rw [hr]
      exact packedWith_byteShape h v false p
    · exact packedWith_of_no_words rfl
  | setBacklight level => exact packedWith_strobeShape h 0x0 false .none
  | createChar slot bitmap =>
    exact (packedWith_glyphShape h slot bitmap .top).append (packedWith_glyphShape h slot bitmap .bottom)
  | write ch => exact packedWith_byteShape h ch true r.part
  | clearByte | homeByte | entryModeSet | displayControl | shift | functionSet | setCgram | setDdram | resetNibble3
  | modeLockNibble2 | dataByte | outputWord => cases hc
  | _ => exact toBoth _

/-- Settles O41: a packed word reads back its backlight bit. -/
theorem backlightOnEveryWord : Obligations.BacklightOnEveryWord := by
  intro i s hc hcfg
  refine ⟨s.after i, _, exec_eq_after i s, s.after_trace i, fun a w c hw => ?_⟩
  have hlevel : (s.after i).blLevel = (registersAfter s.registers i).blLevel := rfl
  have hpacked := (packedWith_bodyShape hcfg.1 s.registers hc).append_no_words (shapeWords_doneShape i)
  rw [← State.shape_eq_registers, ← hlevel] at hpacked
  obtain ⟨n, isData, p, rfl⟩ := hpacked w (mem_shapeWords_of_write_mem hw)
  exact (ne_zero_iff_of_bit (packLines_blMask_bit hcfg.1)).trans bne_iff_ne

end Sys2Proof.Machine

/-! PROOFS. Bring-up (41_init.md): the rules of `init` and `begin`. The state after a command is said here in the terms
its rule is written in: the command's sequence and its end (`State.afterCommand`), then its register writes. -/

namespace Sys2Proof.Machine

/-- What a command does: it sends its sequence, ends, and writes its registers. -/
theorem exec_eq_afterCommand (s : State) {i : Instr} {op : Op} (h : endOp i = some op) :
    exec i s = .next ((s.afterCommand (bodyShape s.cfg s.backlight s.entry s.dispctl s.part i) op (endStatus i)
      (endResult i)).writeRegisters i) := by
  rw [exec_eq_after, s.writeRegisters_eq_after h rfl]

/-- Settles O21: `init` and `clear` have one sequence and one end, and neither writes a register. -/
theorem initRule : Obligations.InitRule :=
  fun s => ⟨rfl, exec_eq_afterCommand s rfl⟩

/-- `begin` writes ROWS, DISPCTL.D and ENTRY.ID, and no other register (41_init.md R100). It is stated of any sequence,
so that comparing the two states does not run the long one of `begin`. -/
theorem State.afterCommand_writeRegisters_begin (s : State) (sh : List Shape) (cols rows : Byte) :
    (s.afterCommand sh .begin .ok 0).writeRegisters (.begin cols rows) =
      { s.afterCommand sh .begin .ok 0 with
        rows := rows
        dispctl := s.dispctl ||| 0b100
        entry := s.entry ||| 0b10 } := rfl

/-- Settles O31: the sequence of `begin` is that of the rule once the function-set byte is written out, and its register
writes are the three of the rule. -/
theorem beginRule : Obligations.BeginRule := by
  intro s cols rows d e
  rw [exec_eq_afterCommand s rfl, bodyShape, functionSetByte_twoLines]
  exact congrArg Host.Outcome.next (s.afterCommand_writeRegisters_begin _ cols rows)

end Sys2Proof.Machine

/-! PROOFS. The display commands (42_display_commands.md): what each sends and writes, and what a flag command undoes of
its opposite. -/

namespace Sys2Proof.Machine

/-! ## Clear, home and scroll -/

/-- Settles O20: `clear` writes no register. -/
theorem clearRule : Obligations.ClearRule :=
  fun s => exec_eq_afterCommand s rfl

/-- Settles O22: PART is the one register that `home` writes. -/
theorem homeRule : Obligations.HomeRule :=
  fun s => exec_eq_afterCommand s rfl

/-- Settles O26: the two SHIFT bytes are 0x18 and 0x1C, and neither command writes a register. -/
theorem scrollRules : Obligations.ScrollRules :=
  fun s => ⟨exec_eq_afterCommand s rfl, exec_eq_afterCommand s rfl⟩

/-! ## Cursor positioning -/

/-- A row of the Row Map: PART is its partition, and the address is the row's base plus the column, in eight bits. -/
theorem exec_setCursor_of_rowMap_some (s : State) (col : Byte) {row base : Byte} {p : Partition}
    (h : rowMap row = some (p, base)) :
    exec (.setCursor col row) s = .next
      ((s.afterCommand (byteShape s.cfg s.backlight (0x80 ||| (base + col)) false p) .setCursor .ok 0).setPart p) := by
  simp only [exec, execSetCursor, cursorTarget, h, State.send_complete]
  rfl

/-- A row outside the Row Map fails the check, before anything is sent or written (60_exceptions.md R151). -/
theorem exec_setCursor_of_rowMap_none (s : State) (col : Byte) {row : Byte} (h : rowMap row = none) :
    exec (.setCursor col row) s = .next (s.raiseInvalidArgument .setCursor) := by
  simp only [exec, execSetCursor, cursorTarget, h]

/-- Settles O23, by the rows of the Row Map. -/
theorem setCursorRule : Obligations.SetCursorRule := by
  intro s col row
  match hrow : row.toNat with
  | 0 | 1 | 2 | 3 => exact exec_setCursor_of_rowMap_some s col (by rw [rowMap, hrow]; rfl)
  | n + 4 => exact exec_setCursor_of_rowMap_none s col (by rw [rowMap, hrow]; rfl)

/-! ## Display control and entry mode -/

/-- Settles O25: each command stores its DISPCTL and broadcasts it. -/
theorem displayControlRules : Obligations.DisplayControlRules := by
  intro s does
  have stores (d : BitVec 3) (op : Op) : .next ((s.putDispctl d).complete op 0) = does d op :=
    congrArg Host.Outcome.next (s.putDispctl_complete d op 0)
  exact ⟨stores _ _, stores _ _, stores _ _, stores _ _, stores _ _, stores _ _⟩

/-- Settles O27: each command stores its ENTRY and broadcasts it. -/
theorem entryModeRules : Obligations.EntryModeRules := by
  intro s does
  have stores (e : BitVec 2) (op : Op) : .next ((s.putEntry e).complete op 0) = does e op :=
    congrArg Host.Outcome.next (s.putEntry_complete e op 0)
  exact ⟨stores _ _, stores _ _, stores _ _, stores _ _⟩

/-! ## Round trips of the flag commands -/

theorem or_and_not_same {w : Nat} (x m : BitVec w) : (x ||| m) &&& ~~~m = x &&& ~~~m := by
  simp [BitVec.and_or_distrib_right]

theorem and_not_or_same {w : Nat} (x m : BitVec w) : (x &&& ~~~m) ||| m = x ||| m := by
  ext i hi
  simp only [BitVec.getElem_or, BitVec.getElem_and, BitVec.getElem_not]
  cases m[i] <;> simp

/-- Set the bits e of ENTRY and d of DISPCTL. -/
def Registers.setFlags (r : Registers) (e : BitVec 2) (d : BitVec 3) : Registers :=
  { r with entry := r.entry ||| e, dispctl := r.dispctl ||| d }

/-- Clear the bits e of ENTRY and d of DISPCTL. -/
def Registers.clearFlags (r : Registers) (e : BitVec 2) (d : BitVec 3) : Registers :=
  { r with entry := r.entry &&& ~~~e, dispctl := r.dispctl &&& ~~~d }

section Flags

variable (r : Registers) (e : BitVec 2) (d : BitVec 3)

@[simp] theorem Registers.setFlags_setFlags : (r.setFlags e d).setFlags e d = r.setFlags e d := by
  simp [Registers.setFlags, BitVec.or_assoc]

@[simp] theorem Registers.clearFlags_clearFlags : (r.clearFlags e d).clearFlags e d = r.clearFlags e d := by
  simp [Registers.clearFlags, BitVec.and_assoc]

@[simp] theorem Registers.clearFlags_setFlags : (r.setFlags e d).clearFlags e d = r.clearFlags e d := by
  simp [Registers.setFlags, Registers.clearFlags, or_and_not_same]

@[simp] theorem Registers.setFlags_clearFlags : (r.clearFlags e d).setFlags e d = r.setFlags e d := by
  simp [Registers.setFlags, Registers.clearFlags, and_not_or_same]

end Flags

/-- The command `on` sets, and `off` clears, the bits e of ENTRY and d of DISPCTL, and neither writes anything else
(42_display_commands.md R113 to R118, R121 to R124). -/
structure FlagPair (on off : Instr) (e : BitVec 2) (d : BitVec 3) : Prop where
  registersAfter_on : ∀ r, registersAfter r on = r.setFlags e d
  registersAfter_off : ∀ r, registersAfter r off = r.clearFlags e d

theorem FlagPair.of_dispctl {on off : Instr} {d : BitVec 3}
    (hon : ∀ r, registersAfter r on = { r with dispctl := r.dispctl ||| d })
    (hoff : ∀ r, registersAfter r off = { r with dispctl := r.dispctl &&& ~~~d }) : FlagPair on off 0 d where
  registersAfter_on r := by simp [hon, Registers.setFlags]
  registersAfter_off r := by rw [hoff, Registers.clearFlags, BitVec.ofNat_eq_ofNat, BitVec.not_zero, BitVec.and_allOnes]

theorem FlagPair.of_entry {on off : Instr} {e : BitVec 2}
    (hon : ∀ r, registersAfter r on = { r with entry := r.entry ||| e })
    (hoff : ∀ r, registersAfter r off = { r with entry := r.entry &&& ~~~e }) : FlagPair on off e 0 where
  registersAfter_on r := by simp [hon, Registers.setFlags]
  registersAfter_off r := by rw [hoff, Registers.clearFlags, BitVec.ofNat_eq_ofNat, BitVec.not_zero, BitVec.and_allOnes]

theorem flagPair_display : FlagPair .display .noDisplay 0 0b100 := .of_dispctl (fun _ => rfl) (fun _ => rfl)
theorem flagPair_cursor : FlagPair .cursor .noCursor 0 0b010 := .of_dispctl (fun _ => rfl) (fun _ => rfl)
theorem flagPair_blink : FlagPair .blink .noBlink 0 0b001 := .of_dispctl (fun _ => rfl) (fun _ => rfl)
theorem flagPair_leftToRight : FlagPair .leftToRight .rightToLeft 0b10 0 := .of_entry (fun _ => rfl) (fun _ => rfl)
theorem flagPair_autoscroll : FlagPair .autoscroll .noAutoscroll 0b01 0 := .of_entry (fun _ => rfl) (fun _ => rfl)

/-- Settles O50: each of the five pairs sets and clears the same bits, and the last command on a bit decides it. -/
theorem flagCommandsRoundTrip : Obligations.FlagCommandsRoundTrip := by
  intro s on off eOn eOff dOn dOff h
  obtain ⟨⟨hon, hoff⟩, rfl, rfl⟩ : FlagPair on off eOn dOn ∧ eOff = eOn ∧ dOff = dOn := by
    simp only [List.mem_cons, List.not_mem_nil, or_false, Prod.mk.injEq] at h
    rcases h with h | h | h | h | h <;> obtain ⟨rfl, rfl, rfl, rfl, rfl, rfl⟩ := h
    · exact ⟨flagPair_display, rfl, rfl⟩
    · exact ⟨flagPair_cursor, rfl, rfl⟩
    · exact ⟨flagPair_blink, rfl, rfl⟩
    · exact ⟨flagPair_leftToRight, rfl, rfl⟩
    · exact ⟨flagPair_autoscroll, rfl, rfl⟩
  refine ⟨s.after on, s.after off, (s.after off).after on, (s.after off).after off, (s.after on).after on,
    (s.after on).after off, exec_eq_after _ _, exec_eq_after _ _, exec_eq_after _ _, exec_eq_after _ _,
    exec_eq_after _ _, exec_eq_after _ _, ?_, ?_, ?_, ?_⟩ <;> simp only [State.after_registers, hon, hoff]
  · exact s.registers.clearFlags_setFlags _ _
  · exact s.registers.setFlags_clearFlags _ _
  · exact s.registers.setFlags_setFlags _ _
  · exact s.registers.clearFlags_clearFlags _ _

end Sys2Proof.Machine

/-! PROOFS. Backlight, glyph definition and character write (43_backlight_glyph_write.md). -/

namespace Sys2Proof.Machine

/-- What a command that writes no register does: it sends its sequence and ends. -/
theorem exec_eq_afterCommand_of_registersAfter_eq (s : State) {i : Instr} {op : Op} (h : endOp i = some op)
    (hr : registersAfter s.registers i = s.registers) :
    exec i s = .next (s.afterCommand (bodyShape s.cfg s.backlight s.entry s.dispctl s.part i) op (endStatus i)
      (endResult i)) :=
  (exec_eq_afterCommand s h).trans (congrArg Host.Outcome.next (State.writeRegisters_of_eq hr))

/-- Settles O28: the sequence carries the backlight bit of the level given, and BL_LEVEL is the one register written. -/
theorem setBacklightRule : Obligations.SetBacklightRule :=
  fun s _ => exec_eq_afterCommand s rfl

/-- Settles O29: the glyph transfer to one partition is the SET_CGRAM byte of the slot, then the rows in index order; it
runs to TOP, then to BOTTOM, and no register is written. -/
theorem createCharRule : Obligations.CreateCharRule := by
  intro s slot b glyphTo
  have glyphTo_eq (p : Partition) : glyphTo p = glyphShape s.cfg s.backlight slot b p := by
    simp only [glyphTo, glyphShape, setCgramByte_slotIndex, bitmapRows, dataShape, List.append_nil, List.append_assoc]
  rw [glyphTo_eq .top, glyphTo_eq .bottom]
  exact exec_eq_afterCommand_of_registersAfter_eq s rfl rfl

/-- Settles O30: the sequence is the one data byte to PART, the command ends with RESULT 1 in every state, and no
register is written. -/
theorem writeRule : Obligations.WriteRule :=
  fun s _ => exec_eq_afterCommand_of_registersAfter_eq s rfl rfl

end Sys2Proof.Machine

/-! PROOFS. The one error and the operand that raises none (60_exceptions.md). -/

namespace Sys2Proof.Machine

/-- The Row Map has exactly the rows 0 to 3 (10_state.md R18). -/
theorem rowMap_eq_none_iff (row : Byte) : rowMap row = none ↔ 4 ≤ row.toNat := by
  rw [rowMap]
  match row.toNat with
  | 0 | 1 | 2 | 3 => decide
  | n + 4 => simp

/-- Settles O24: a row of at least 4 is outside the Row Map, and the state it ends in is that of the raise. -/
theorem rowOutsideFourRaisesInvalidArgument : Obligations.RowOutsideFourRaisesInvalidArgument :=
  fun s col row hrow => exec_setCursor_of_rowMap_none s col ((rowMap_eq_none_iff row).mpr hrow)

/-- The mask `slot & 7` is the slot modulo 8 (60_exceptions.md R155). -/
theorem slotIndex_eq_iff (slot slot' : Byte) :
    slotIndex slot = slotIndex slot' ↔ slot.toNat % 8 = slot'.toNat % 8 := by
  simp [slotIndex, ← BitVec.toNat_inj]

/-- The glyph slot is read through its index only, in the transfers to both partitions. -/
theorem exec_createChar_congr {slot slot' : Byte} (h : slotIndex slot = slotIndex slot') (b : Bitmap) (s : State) :
    exec (.createChar slot b) s = exec (.createChar slot' b) s := by
  simp only [exec, execCreateChar, State.sendGlyph, h]

/-- Settles O51: the two slots have one index, and `createChar` ends with STATUS OK for any slot. -/
theorem glyphSlotWrapsModuloEight : Obligations.GlyphSlotWrapsModuloEight := by
  intro s slot slot' b hmod
  have hexec := exec_createChar_congr ((slotIndex_eq_iff slot slot').mpr hmod) b s
  exact ⟨s.after (.createChar slot b), exec_eq_after _ s, hexec ▸ exec_eq_after _ s, s.after_status _⟩

end Sys2Proof.Machine

/-! PROOFS. Reset, commands presented to a busy block, and the time an instruction waits
(70_reset_and_hazards.md R170, R177, R183). -/

namespace Sys2Proof.Machine

/-- Settles O9: a busy block's fetch finds nothing to do, whatever is presented. -/
theorem commandIgnoredWhileBusy : Obligations.CommandIgnoredWhileBusy := by
  intro s word glyph hr hb
  rw [step, State.fetch_idle (s := s.present word glyph) hr (.inl hb)]

/-- Construction meets the invariant: the trace is empty and no command has ended. -/
theorem State.construct_inv {c : Config} (h : c.Valid) (address : Nat) : (State.construct c address).Inv :=
  ⟨h, trivial, .inl rfl, fun _ => rfl⟩

theorem reference_valid : Config.reference.Valid := by decide

/-- Settles O44: reset is a construction, and the reference parameters are admissible. -/
theorem constructionMeetsTheInvariant : Obligations.ConstructionMeetsTheInvariant :=
  ⟨fun _ address h => State.construct_inv h address, State.construct_inv reference_valid 0x3F⟩

/-- ADDR is the low seven bits of the address (10_state.md R12). -/
theorem State.construct_addr_toNat (c : Config) (address : Nat) :
    (State.construct c address).addr.toNat = address &&& 0x7F :=
  (Nat.and_two_pow_sub_one_eq_mod address 7).symm

/-- Settles O52: construction stores each reset parameter, and masking the address is reducing it to seven bits. -/
theorem constructionValues : Obligations.ConstructionValues :=
  ⟨fun c address => ⟨State.construct_addr_toNat c address, rfl, rfl, rfl, rfl, rfl, rfl, rfl, rfl, rfl⟩, rfl, rfl, rfl⟩

/-! ## Waiting times -/

/-- The default times of 00_scope.md R5, as 70_reset_and_hazards.md R183 reads them. -/
structure DefaultTimes (c : Config) : Prop where
  tHold : c.tHold = 1
  tSettle : c.tSettle = 37
  tClear : c.tClear = 1500
  tHome : c.tHome = 1500
  tInit1 : c.tInit1 = 4500
  tInit2 : c.tInit2 = 200
  tInit3 : c.tInit3 = 200

/-- The least time a sequence waits. -/
def shapeTime (sh : List Shape) : Nat := (shapeWaits sh).sum

@[simp] theorem shapeTime_nil : shapeTime [] = 0 := rfl

@[simp] theorem shapeTime_append (a b : List Shape) : shapeTime (a ++ b) = shapeTime a + shapeTime b := by
  simp [shapeTime]

@[simp] theorem shapeTime_wait_cons (t : Nat) (sh : List Shape) : shapeTime (.wait t :: sh) = t + shapeTime sh :=
  List.sum_cons

@[simp] theorem shapeTime_busBegin_cons (sh : List Shape) : shapeTime (.busBegin :: sh) = shapeTime sh := rfl

@[simp] theorem shapeTime_doneShape (i : Instr) : shapeTime (doneShape i) = 0 := by simp [shapeTime]

section Times

variable {c : Config} (h : DefaultTimes c) (bl : Bool)
include h

theorem shapeTime_strobeShape (n : Nibble) (isData : Bool) (p : Partition) :
    shapeTime (strobeShape c bl n isData p) = 38 := by
  simp [shapeTime, h.tHold, h.tSettle]

theorem shapeTime_byteShape (v : Byte) (isData : Bool) (p : Partition) :
    shapeTime (byteShape c bl v isData p) = 76 := by
  simp [byteShape, shapeTime_strobeShape h]

theorem shapeTime_nibbleToBoth (n : Nibble) : shapeTime (nibbleToBoth c bl n) = 76 := by
  simp [nibbleToBoth, shapeTime_strobeShape h]

theorem shapeTime_byteToBoth (v : Byte) : shapeTime (byteToBoth c bl v) = 152 := by
  simp [byteToBoth, shapeTime_byteShape h]

theorem shapeTime_dataShape (p : Partition) (vs : List Byte) : shapeTime (dataShape c bl p vs) = 76 * vs.length := by
  induction vs with
  | nil => rfl
  | cons v vs ih =>
    rw [dataShape, shapeTime_append, shapeTime_byteShape h, ih, List.length_cons]
    omega

/-- One SET_CGRAM byte and eight rows. -/
theorem shapeTime_glyphShape (slot : Byte) (bitmap : Bitmap) (p : Partition) :
    shapeTime (glyphShape c bl slot bitmap p) = 684 := by
  simp [glyphShape, shapeTime_byteShape h, shapeTime_dataShape h, bitmapRows]

/-- Four nibbles and four bytes to both partitions, the three reset waits and T_CLEAR. -/
theorem shapeTime_bodyShape_begin (e : BitVec 2) (d : BitVec 3) (part : Partition) (cols rows : Byte) :
    shapeTime (bodyShape c bl e d part (.begin cols rows)) = 7312 := by
  simp [bodyShape, shapeTime_nibbleToBoth h, shapeTime_byteToBoth h, h.tInit1, h.tInit2, h.tInit3, h.tClear]

/-- An address byte, or nothing for a row outside 0..3. -/
theorem shapeTime_bodyShape_setCursor (e : BitVec 2) (d : BitVec 3) (part : Partition) (col row : Byte) :
    shapeTime (bodyShape c bl e d part (.setCursor col row)) = instrTime (.setCursor col row) := by
  rcases setCursor_cases col row with ⟨p, v, ht, -, -, hok⟩ | ⟨ht, -, hok⟩
  · simp [bodyShape, instrTime, ht, hok, shapeTime_byteShape h]
  · simp [bodyShape, instrTime, ht, hok]

/-- The body of every instruction waits for the time R183 gives. -/
theorem shapeTime_bodyShape (e : BitVec 2) (d : BitVec 3) (part : Partition) (i : Instr) :
    shapeTime (bodyShape c bl e d part i) = instrTime i :=
  match i with
  | .begin cols rows => shapeTime_bodyShape_begin h bl e d part cols rows
  | .setCursor col row => shapeTime_bodyShape_setCursor h bl e d part col row
  | .init | .clear => by simp [bodyShape, instrTime, shapeTime_byteToBoth h, h.tClear]
  | .home => by simp [bodyShape, instrTime, shapeTime_byteToBoth h, h.tHome]
  | .setBacklight _ => shapeTime_strobeShape h _ _ _ _
  | .createChar _ _ => by simp [bodyShape, instrTime, shapeTime_glyphShape h]
  | .cursor | .noCursor | .blink | .noBlink | .display | .noDisplay | .scrollDisplayLeft | .scrollDisplayRight
  | .leftToRight | .rightToLeft | .autoscroll | .noAutoscroll | .clearByte | .homeByte | .entryModeSet _
  | .displayControl _ | .shift _ | .functionSet _ => shapeTime_byteToBoth h _ _
  | .write _ | .setCgram _ _ | .setDdram _ _ | .dataByte _ _ => shapeTime_byteShape h _ _ _ _
  | .resetNibble3 | .modeLockNibble2 => shapeTime_nibbleToBoth h _ _
  | .outputWord _ _ _ _ => rfl

end Times

/-- Settles O37: the waits of an instruction are those of its body, since the end of a command waits for nothing. -/
theorem commandTimes : Obligations.CommandTimes := by
  intro i s hHold hSettle hClear hHome hInit1 hInit2 hInit3
  have htimes : DefaultTimes s.cfg := ⟨hHold, hSettle, hClear, hHome, hInit1, hInit2, hInit3⟩
  refine ⟨s.after i, _, exec_eq_after i s, s.after_trace i, ?_⟩
  calc (waitsIn (annotate s.addr s.codeAt 0 (s.shape i))).sum
      = shapeTime (s.shape i) := by rw [waitsIn_annotate, shapeTime]
    _ = instrTime i := by
      rw [State.shape, shapeTime_append, shapeTime_bodyShape htimes, shapeTime_doneShape, Nat.add_zero]

end Sys2Proof.Machine
